-- ==== Sys2Proof/Word.lean ====
section
/-! DEFINITION. The machine words of the block (00_scope.md R11): a byte and the 32-bit registers of
10_state.md R21. Addresses and lengths are compared as natural numbers, after `toNat`. -/

namespace Sys2Proof

/-- A byte, 8 bits (00_scope.md R11). -/
abbrev Byte := BitVec 8

/-- An operand or result register of 32 bits (10_state.md R21, R23, R24). -/
abbrev Word := BitVec 32

end Sys2Proof
end

