-- ==== Sys2Proof/Syntax.lean ====
section
/-! DEFINITION. The syntax: the 48 commands of 30_encoding.md R96, their operand formats (R91), and the value
types of 00_scope.md R13 that the transport port and the phase encoder speak in. A command word holds no
operand (R91, R106), so a constructor of `Instr` has no argument: the operands stand in registers. -/

namespace Sys2Proof

/-- The commands of 30_encoding.md R96, one constructor per row of the opcode table, in its order. -/
inductive Instr
  | writeEnable  -- WRITE_ENABLE, code 0x01, format N, 42_status.md R181
  | writeDisable  -- WRITE_DISABLE, code 0x02, format N, 42_status.md R182
  | readSr1  -- READ_SR1, code 0x03, format N, 42_status.md R183
  | readSr2  -- READ_SR2, code 0x04, format N, 42_status.md R184
  | readSr3  -- READ_SR3, code 0x05, format N, 42_status.md R185
  | writeSr1  -- WRITE_SR1, code 0x06, format G, 42_status.md R186
  | writeSr2  -- WRITE_SR2, code 0x07, format G, 42_status.md R187
  | writeSr3  -- WRITE_SR3, code 0x08, format G, 42_status.md R188
  | waitReady  -- WAIT_READY, code 0x09, format G, 42_status.md R189
  | readData  -- READ_DATA, code 0x10, format AL, 43_read.md R201
  | fastRead  -- FAST_READ, code 0x11, format AL, 43_read.md R202
  | readDualOut  -- READ_DUAL_OUT, code 0x12, format AL, 43_read.md R203
  | readDualIo  -- READ_DUAL_IO, code 0x13, format AL, 43_read.md R204
  | readQuadOut  -- READ_QUAD_OUT, code 0x14, format AL, 43_read.md R205
  | readQuadIo  -- READ_QUAD_IO, code 0x15, format AL, 43_read.md R206
  | readDtr  -- READ_DTR, code 0x16, format AL, 43_read.md R207
  | readDualIoDtr  -- READ_DUAL_IO_DTR, code 0x17, format AL, 43_read.md R208
  | readQuadIoDtr  -- READ_QUAD_IO_DTR, code 0x18, format AL, 43_read.md R209
  | pageProgram  -- PAGE_PROGRAM, code 0x20, format ALD, 44_program_erase.md R221
  | sectorErase  -- SECTOR_ERASE, code 0x21, format A, 44_program_erase.md R222
  | block32Erase  -- BLOCK32_ERASE, code 0x22, format A, 44_program_erase.md R223
  | block64Erase  -- BLOCK64_ERASE, code 0x23, format A, 44_program_erase.md R224
  | chipErase  -- CHIP_ERASE, code 0x24, format N, 44_program_erase.md R225
  | readJedecId  -- READ_JEDEC_ID, code 0x30, format N, 45_id_security.md R236
  | readMfrId  -- READ_MFR_ID, code 0x31, format N, 45_id_security.md R237
  | readUniqueId  -- READ_UNIQUE_ID, code 0x32, format N, 45_id_security.md R238
  | secRead  -- SEC_READ, code 0x34, format AL, 45_id_security.md R240
  | secProgram  -- SEC_PROGRAM, code 0x35, format ALD, 45_id_security.md R241
  | secErase  -- SEC_ERASE, code 0x36, format A, 45_id_security.md R242
  | enter4b  -- ENTER_4B, code 0x40, format N, 46_mode_reset.md R251
  | exit4b  -- EXIT_4B, code 0x41, format N, 46_mode_reset.md R252
  | enterQpi  -- ENTER_QPI, code 0x42, format N, 46_mode_reset.md R253
  | exitQpi  -- EXIT_QPI, code 0x43, format N, 46_mode_reset.md R254
  | dtrEnable  -- DTR_ENABLE, code 0x44, format N, 46_mode_reset.md R255
  | dtrDisable  -- DTR_DISABLE, code 0x45, format N, 46_mode_reset.md R256
  | softReset  -- SOFT_RESET, code 0x46, format N, 46_mode_reset.md R257
  | checksumCalc  -- CHECKSUM_CALC, code 0x50, format AA, 47_checksum_pagebuffer.md R271
  | checksumRead  -- CHECKSUM_READ, code 0x51, format N, 47_checksum_pagebuffer.md R272
  | pbClear  -- PB_CLEAR, code 0x58, format N, 47_checksum_pagebuffer.md R275
  | pbWrite  -- PB_WRITE, code 0x59, format ALD, 47_checksum_pagebuffer.md R276
  | pbRead  -- PB_READ, code 0x5A, format AL, 47_checksum_pagebuffer.md R277
  | pbProgram  -- PB_PROGRAM, code 0x5B, format A, 47_checksum_pagebuffer.md R278
  | pbLoad  -- PB_LOAD, code 0x5C, format A, 47_checksum_pagebuffer.md R279
  | read  -- READ, code 0x80, format AL, 48_composite.md R291
  | write  -- WRITE, code 0x81, format ALD, 48_composite.md R292
  | erase  -- ERASE, code 0x82, format AG, 48_composite.md R295
  | getId  -- GET_ID, code 0x83, format N, 48_composite.md R296
  | getStatus  -- GET_STATUS, code 0x84, format N, 48_composite.md R297
  deriving DecidableEq, Repr

/-- Operand formats, 30_encoding.md R91: which operand registers a command reads. -/
inductive Format
  | fN    -- none
  | fG    -- ARG
  | fA    -- ADDR
  | fAL   -- ADDR, LEN
  | fALD  -- ADDR, LEN, TX
  | fAG   -- ADDR, ARG
  | fAA   -- ADDR, ADDR2
  deriving DecidableEq, Repr

/-! ## Value types of 00_scope.md R13 -/

/-- How many data signals a phase uses. -/
inductive Lines
  | l1 | l2 | l4
  deriving DecidableEq, Repr

/-- Single or double transfer rate. -/
inductive Rate
  | sdr | dtr
  deriving DecidableEq, Repr

/-- Who drives the data signals: the host side (TO_CHIP) or the chip (FROM_CHIP). -/
inductive Dir
  | toChip | fromChip
  deriving DecidableEq, Repr

/-- An electrical configuration of the transport. -/
structure Mode where
  lines : Lines
  rate : Rate
  dir : Dir
  deriving DecidableEq, Repr

/-- The dummy model of a phase: none, or one of the three presets. -/
inductive Dummy
  | none | dp1 | dp2 | dp3
  deriving DecidableEq, Repr

/-- The set of control actions of a phase descriptor. -/
structure Actions where
  wait : Bool := false
  discard : Bool := false
  rsucc : Bool := false
  modeOff : Bool := false
  capture : Bool := false
  deriving DecidableEq, Repr

/-- A phase descriptor. Which ones are legal is 30_encoding.md R94 (`PD.fault?` of WellFormed). -/
structure PD where
  lines : Lines
  rate : Rate
  dir : Dir
  dummy : Dummy
  actions : Actions
  deriving DecidableEq, Repr

/-- What one phase returns to the sequencer. -/
inductive PhaseRet
  | data (b : Byte)
  | success (ok : Bool)
  | nothing
  deriving DecidableEq, Repr

/-- XP's answer to `select_low`, `select_high` and `configure` (40_phase_encoder.md R121, R122). -/
inductive CallAns
  | ok | error
  deriving DecidableEq, Repr

/-- XP's answer to `transfer` (40_phase_encoder.md R123). -/
inductive XferAns
  | done (rx : Byte)
  | notAccepted
  | error
  deriving DecidableEq, Repr

/-- XP's answer to `auto_poll` (40_phase_encoder.md R124). -/
inductive PollAns
  | matched (sr : Byte)
  | timedOut (sr : Byte)
  | error
  deriving DecidableEq, Repr

/-- The calls of the transport port (40_phase_encoder.md R120 to R124). -/
inductive Call
  | selectLow
  | selectHigh
  | configure (m : Mode)
  | transfer (tx : Byte) (wait : Bool)
  | autoPoll (opcode : Byte) (lines : Lines) (mask target : Byte) (budget : Nat)
  deriving DecidableEq, Repr

/-- What XP answers to its next call, WHICHEVER call that is: one answer of each type, of which the call
takes its own. The rules place no constraint on any of them (40_phase_encoder.md R125). -/
structure Answer where
  call : CallAns
  xfer : XferAns
  poll : PollAns
  deriving DecidableEq, Repr

/-- The answer a call got, as the trace of 00_scope.md R14 records it. -/
inductive Reply
  | call (a : CallAns)
  | xfer (a : XferAns)
  | poll (a : PollAns)
  deriving DecidableEq, Repr

/-- One token of the transport trace (00_scope.md R14): a call and its answer. -/
structure Event where
  call : Call
  reply : Reply
  deriving DecidableEq, Repr

/-- The result kinds (00_scope.md R13, 60_exceptions.md R310). -/
inductive Result
  | ok
  | transportCommandFailed
  | transportDataFailed
  | invalidArgument
  | busyTimeout
  | writeEnableFailed
  deriving DecidableEq, Repr

/-- The mode flags of the Addressing-Mode Manager (10_state.md R29 to R31). -/
inductive Flag
  | a4b | qpiEn | dtrEn
  deriving DecidableEq, Repr

end Sys2Proof
end

