-- ==== Sys2Proof/Config.lean ====
section
/-! DEFINITION. The parameter record `CFG` of 00_scope.md R8 to R10, and the free values: constants without a
body for what the spec leaves open. Every literal of R8 is a field, so that an audit changes a configuration and
not a rule (R10). Tables are lists of the entries a configuration gives; what they do not list has the default
of the rule named, or is OPEN and then a free value. The defaults themselves stand in Machine/Defaults.lean. -/

namespace Sys2Proof

/-- The names of the wire opcode parameters `OPC[c]` (30_encoding.md R96, R103). -/
inductive Opc
  | wren | wrdi | rdsr1 | rdsr2 | rdsr3 | wrsr1 | wrsr2 | wrsr3
  | read | fastRead | dualOut | dualIo | quadOut | quadIo | dtrRead | dualIoDtr | quadIoDtr
  | pp | se | be32 | be64 | ce
  | jedec | mfr | uid | secRead | secProg | secErase
  | en4b | ex4b | enqpi | exqpi | rsten | rst
  | chkCalc | chkRead | pbClear | pbWrite | pbRead | pbProg | pbLoad
  deriving DecidableEq, Repr

/-- The budget classes of 41_sequencer_poller.md R171, in the order of their indices 0 to 7. -/
inductive BudgetClass
  | wel | program | erase4k | erase32k | erase64k | eraseChip | srWrite | checksum
  deriving DecidableEq, Repr

/-- Lines and rate of a group of phases: the pairs `addr_m` and `data_m` of 41_sequencer_poller.md R150. -/
structure Width where
  lines : Lines
  rate : Rate
  deriving DecidableEq, Repr

/-- The three double-rate dummy presets (00_scope.md R8 `N_DTR_PRESETS`). -/
inductive Preset
  | p1 | p2 | p3
  deriving DecidableEq, Repr

/-- One item of a descriptor's dummy list (41_sequencer_poller.md R150). `bytes n n4 …` is `BYTES(n, …)`
with the count `n` when the sampled A4B is 0 and `n4` when it is 1 ("n may depend on A4B"). -/
inductive DummyItem
  | bytes (n n4 : Nat) (lines : Lines) (rate : Rate) (dir : Dir)
  | preset (k : Preset)
  deriving DecidableEq, Repr

/-- The shape fields `CD[c]` of a command (00_scope.md R9): widths and dummy items. -/
structure Shape where
  addrM : Width
  dummy : List DummyItem
  dataM : Width
  deriving DecidableEq, Repr

/-- The nine read commands of 43_read.md, as values of the parameter READ_VARIANT. -/
inductive ReadCmd
  | readData | fastRead | readDualOut | readDualIo | readQuadOut | readQuadIo | readDtr | readDualIoDtr | readQuadIoDtr
  deriving DecidableEq, Repr

/-- How the poller reads the status (41_sequencer_poller.md R168, R173). -/
inductive PollImpl
  | reads | assisted
  deriving DecidableEq, Repr

/-- The parameter record of 00_scope.md R8 and R9: every literal of R8 is a field (R10). `srCount`, `nDtrPresets` and
`lines` count what the command table (30_encoding.md R96), the `DUMMY` field and the `LINES` field (R93) can name, so a
well-formed configuration has the stated values there (log 37). -/
structure Cfg where
  pageSize : Nat
  erase4k : Nat
  erase32k : Nat
  erase64k : Nat
  /-- `ADDR_BYTES(a4b)` for 0 and 1. -/
  addrBytes : Vector Nat 2
  srCount : Nat
  secCount : Nat
  secSpacing : Nat
  uidBytes : Nat
  nDtrPresets : Nat
  /-- The set `LINES`. -/
  lines : List Lines
  /-- `OPC[c]`; an opcode not listed has the default of R103, and is OPEN where R103 has none (R9). -/
  opc : List (Opc × Byte)
  /-- `OPC4[c]`; one not listed equals `OPC[c]` (30_encoding.md R99). -/
  opc4 : List (Opc × Byte)
  busyMask : Byte
  welMask : Byte
  qeMask : Byte
  /-- `SEC_BASE[0]`; the further bases follow at `SEC_SPACING` (R9). -/
  secBase : Word
  secSize : Nat
  /-- `DTR_DUMMY_CLOCKS[1..3]`. -/
  dtrClocks : Vector Nat 3
  /-- `DTR_DUMMY_SEQ[k]`; one not listed is the default made from the clock count (40_phase_encoder.md R132). -/
  dtrSeq : List (Preset × List Mode)
  dummyByte : Byte
  /-- `CD[c]`; a shape not listed is that of the command's rule. -/
  shapes : List (Opc × Shape)
  /-- `BUDGET[k]`; a budget not listed is OPEN (R9). -/
  budgets : List (BudgetClass × Nat)
  pollImpl : PollImpl
  cksumBits : Nat
  /-- `READ_VARIANT(qpi, dtr)` for (0,0), (0,1), (1,0), (1,1). -/
  readVariant : Vector ReadCmd 4
  /-- `CHK_LEGAL_SET`; when none is given, the security-register bases (R9). -/
  chkLegalSet : Option (List Word)
  chkLen : Nat
  jedecBytes : Nat
  mfrBytes : Nat
  /-- The width of ADDR, ADDR2 and LEN in bits, at most that of `Word` (log 38). -/
  operandBits : Nat
  deriving DecidableEq, Repr

/-- The byte of an OPEN opcode parameter that the configuration does not give (00_scope.md R9, 30_encoding.md
R103 has no default for it): free. Log 2. -/
opaque Config.openOpcode : Opc → Byte

/-- One less than an OPEN budget that the configuration does not give (41_sequencer_poller.md R171: a positive
integer; R47: it is compared with a 32-bit counter): free. Log 3. -/
opaque Config.openBudget : BudgetClass → Fin 4294967295

/-- The unspecified bytes a register read can return (93_implementation_defined.md U2): free. Log 13. -/
opaque Config.freeByte : Nat → Byte

/-- What the TXDATA FIFO holds after a command to which HOST pushed more bytes than LEN
(93_implementation_defined.md U12): free. Log 11. -/
opaque Config.freeFifo : Nat → List Byte

/-- What the reference chip DEV answers where 20_memory.md R81 to R86 give it no answer: free. Log 22. -/
opaque Config.freeDevByte : Nat → Byte

end Sys2Proof
end

