-- ==== Sys2Proof/WellFormed.lean ====
section
/-! DEFINITION. Well-formedness. A command word holds no operand, so every `Instr` is well formed
(30_encoding.md R91, R106); the checks of a command's OPERANDS are made by the machine (41_sequencer_poller.md
R152) and stand in Machine/Operands.lean. What must be well formed is a phase descriptor (30_encoding.md R94)
and a configuration (00_scope.md R8, R9; 70_reset_and_hazards.md R352). -/

namespace Sys2Proof

/-- Every command word of the catalogue is well formed: nothing in it is an operand (30_encoding.md R106). -/
def Instr.wellFormed (_ : Instr) : Bool := true

/-- Why a phase descriptor word is illegal, by the numbered checks of 30_encoding.md R94. -/
inductive PDFault
  | dummyNeedsDtr       -- check 1
  | linesReserved       -- check 2
  | reservedBits        -- check 3
  | captureConflict     -- check 4
  | presetMovesNoData   -- check 5
  deriving DecidableEq, Repr

/-- The checks 1, 4 and 5 of 30_encoding.md R94 on a descriptor; checks 2 and 3 are about bits that the
record type cannot hold (`decodePD` makes them). `none` means legal. Check 6: `dir` on one line is ignored. -/
def PD.fault? (pd : PD) : Option PDFault :=
  if pd.dummy ≠ .none ∧ pd.rate ≠ .dtr then some .dummyNeedsDtr
  else if pd.actions.capture ∧ (pd.actions.discard ∨ pd.actions.rsucc) then some .captureConflict
  else if pd.dummy ≠ .none ∧ (pd.actions.rsucc ∨ pd.actions.capture) then some .presetMovesNoData
  else none

/-- A legal phase descriptor (30_encoding.md R94). -/
def PD.legal (pd : PD) : Bool := pd.fault?.isNone

/-- Why a configuration is not one the rules speak of. -/
inductive CfgFault
  | budgetNotPositive   -- R9: a positive integer; R168: at least 1
  | budgetTooWide       -- R47: compared with a 32-bit counter
  | secPastTop          -- R9: every base is a 32-bit address, the last one too
  | addrTooWide         -- R8, R21: the address bytes are those of a 32-bit register, and 4-byte mode has no fewer
  | fixedCount          -- R8: SR_COUNT, N_DTR_PRESETS and LINES are what R93 and R96 can name (log 37)
  | operandTooWide      -- R9, R37: ADDR, ADDR2 and LEN are registers of at most 32 bits (log 38)
  | pageEmpty           -- R8: pages hold at least a byte
  | cksumTooWide        -- R23, R37: CKSUM is a register of 32 bits
  deriving DecidableEq, Repr

/-- The checks on a configuration; `none` means well formed. -/
def Cfg.fault? (c : Cfg) : Option CfgFault :=
  if c.budgets.any (fun e => e.2 == 0) then some .budgetNotPositive
  else if c.budgets.any (fun e => 4294967295 < e.2) then some .budgetTooWide
  else if 2 ^ 32 ≤ c.secBase.toNat + (c.secCount - 1) * c.secSpacing then some .secPastTop
  else if 4 < c.addrBytes[1] ∨ c.addrBytes[1] < c.addrBytes[0] then some .addrTooWide
  else if c.srCount ≠ 3 ∨ c.nDtrPresets ≠ 3 ∨ c.lines ≠ [.l1, .l2, .l4] then some .fixedCount
  else if 32 < c.operandBits then some .operandTooWide
  else if c.pageSize = 0 then some .pageEmpty
  else if 32 < c.cksumBits then some .cksumTooWide
  else none

/-- A configuration the rules speak of. -/
def Cfg.wf (c : Cfg) : Bool := c.fault?.isNone

end Sys2Proof
end

