-- ==== Sys2Proof/Decode.lean ====
section
/-! DEFINITION. The two encodings the block has words for: the command code of 8 bits (30_encoding.md R91, R96,
R101) and the phase descriptor word of 16 bits (R93, R94). Decoding is total and rejects by name; the encoders
follow. -/

namespace Sys2Proof

/-- Why a command code is no command (30_encoding.md R101). -/
inductive CodeFault
  | reservedCode    -- 0x00, the value CMD has at reset (10_state.md R46)
  | lockGroup       -- 0x60 to 0x6F (47_checksum_pagebuffer.md R284)
  | unlisted        -- every other code not in the table of R96
  deriving DecidableEq, Repr

/-- Decode a command code: the table of 30_encoding.md R96. -/
def decodeCode (code : Byte) : Except CodeFault Instr :=
  match code with
  | 0x01#8 => .ok .writeEnable
  | 0x02#8 => .ok .writeDisable
  | 0x03#8 => .ok .readSr1
  | 0x04#8 => .ok .readSr2
  | 0x05#8 => .ok .readSr3
  | 0x06#8 => .ok .writeSr1
  | 0x07#8 => .ok .writeSr2
  | 0x08#8 => .ok .writeSr3
  | 0x09#8 => .ok .waitReady
  | 0x10#8 => .ok .readData
  | 0x11#8 => .ok .fastRead
  | 0x12#8 => .ok .readDualOut
  | 0x13#8 => .ok .readDualIo
  | 0x14#8 => .ok .readQuadOut
  | 0x15#8 => .ok .readQuadIo
  | 0x16#8 => .ok .readDtr
  | 0x17#8 => .ok .readDualIoDtr
  | 0x18#8 => .ok .readQuadIoDtr
  | 0x20#8 => .ok .pageProgram
  | 0x21#8 => .ok .sectorErase
  | 0x22#8 => .ok .block32Erase
  | 0x23#8 => .ok .block64Erase
  | 0x24#8 => .ok .chipErase
  | 0x30#8 => .ok .readJedecId
  | 0x31#8 => .ok .readMfrId
  | 0x32#8 => .ok .readUniqueId
  | 0x34#8 => .ok .secRead
  | 0x35#8 => .ok .secProgram
  | 0x36#8 => .ok .secErase
  | 0x40#8 => .ok .enter4b
  | 0x41#8 => .ok .exit4b
  | 0x42#8 => .ok .enterQpi
  | 0x43#8 => .ok .exitQpi
  | 0x44#8 => .ok .dtrEnable
  | 0x45#8 => .ok .dtrDisable
  | 0x46#8 => .ok .softReset
  | 0x50#8 => .ok .checksumCalc
  | 0x51#8 => .ok .checksumRead
  | 0x58#8 => .ok .pbClear
  | 0x59#8 => .ok .pbWrite
  | 0x5A#8 => .ok .pbRead
  | 0x5B#8 => .ok .pbProgram
  | 0x5C#8 => .ok .pbLoad
  | 0x80#8 => .ok .read
  | 0x81#8 => .ok .write
  | 0x82#8 => .ok .erase
  | 0x83#8 => .ok .getId
  | 0x84#8 => .ok .getStatus
  | c => .error (if c = 0x00#8 then .reservedCode else if c.toNat / 16 = 6 then .lockGroup else .unlisted)

/-- A command word as the bytes HOST writes: one byte, no prefix and no longer form (30_encoding.md R91). The rest
of the list is not read. -/
def decode : List Byte → Except CodeFault (Instr × List Byte)
  | [] => .error .unlisted
  | b :: rest => (decodeCode b).map (·, rest)

/-- The instruction the decoder reads from the bits `w` of an `nbits`-bit row: a command word is one byte, bits 7:4
the family and 3:0 the index (30_encoding.md R91). -/
def decodeTableWord (nbits w : Nat) : Option Instr :=
  if nbits = 8 ∧ w < 256 then
    match decode [BitVec.ofNat 8 w] with
    | .ok (i, _) => some i
    | .error _ => none
  else none

/-- The code of a command: the same table, read the other way. -/
def encode (i : Instr) : Byte :=
  match i with
  | .writeEnable => 0x01#8
  | .writeDisable => 0x02#8
  | .readSr1 => 0x03#8
  | .readSr2 => 0x04#8
  | .readSr3 => 0x05#8
  | .writeSr1 => 0x06#8
  | .writeSr2 => 0x07#8
  | .writeSr3 => 0x08#8
  | .waitReady => 0x09#8
  | .readData => 0x10#8
  | .fastRead => 0x11#8
  | .readDualOut => 0x12#8
  | .readDualIo => 0x13#8
  | .readQuadOut => 0x14#8
  | .readQuadIo => 0x15#8
  | .readDtr => 0x16#8
  | .readDualIoDtr => 0x17#8
  | .readQuadIoDtr => 0x18#8
  | .pageProgram => 0x20#8
  | .sectorErase => 0x21#8
  | .block32Erase => 0x22#8
  | .block64Erase => 0x23#8
  | .chipErase => 0x24#8
  | .readJedecId => 0x30#8
  | .readMfrId => 0x31#8
  | .readUniqueId => 0x32#8
  | .secRead => 0x34#8
  | .secProgram => 0x35#8
  | .secErase => 0x36#8
  | .enter4b => 0x40#8
  | .exit4b => 0x41#8
  | .enterQpi => 0x42#8
  | .exitQpi => 0x43#8
  | .dtrEnable => 0x44#8
  | .dtrDisable => 0x45#8
  | .softReset => 0x46#8
  | .checksumCalc => 0x50#8
  | .checksumRead => 0x51#8
  | .pbClear => 0x58#8
  | .pbWrite => 0x59#8
  | .pbRead => 0x5A#8
  | .pbProgram => 0x5B#8
  | .pbLoad => 0x5C#8
  | .read => 0x80#8
  | .write => 0x81#8
  | .erase => 0x82#8
  | .getId => 0x83#8
  | .getStatus => 0x84#8

/-- The operand format of a command: the table of 30_encoding.md R91. -/
def Instr.format (i : Instr) : Format :=
  match i with
  | .writeEnable | .writeDisable | .readSr1 | .readSr2 | .readSr3 | .chipErase | .readJedecId
  | .readMfrId | .readUniqueId | .enter4b | .exit4b | .enterQpi | .exitQpi | .dtrEnable
  | .dtrDisable | .softReset | .checksumRead | .pbClear | .getId | .getStatus => .fN
  | .writeSr1 | .writeSr2 | .writeSr3 | .waitReady => .fG
  | .readData | .fastRead | .readDualOut | .readDualIo | .readQuadOut | .readQuadIo | .readDtr
  | .readDualIoDtr | .readQuadIoDtr | .secRead | .pbRead | .read => .fAL
  | .pageProgram | .secProgram | .pbWrite | .write => .fALD
  | .sectorErase | .block32Erase | .block64Erase | .secErase | .pbProgram | .pbLoad => .fA
  | .checksumCalc => .fAA
  | .erase => .fAG

/-! ## The phase descriptor word (30_encoding.md R93) -/

/-- Bits 1:0. -/
def Lines.code : Lines → BitVec 2
  | .l1 => 0 | .l2 => 1 | .l4 => 2

/-- Bit 2. -/
def Rate.code : Rate → BitVec 1
  | .sdr => 0 | .dtr => 1

/-- Bit 3. -/
def Dir.code : Dir → BitVec 1
  | .toChip => 0 | .fromChip => 1

/-- Bits 5:4. -/
def Dummy.code : Dummy → BitVec 2
  | .none => 0 | .dp1 => 1 | .dp2 => 2 | .dp3 => 3

/-- The word of a phase descriptor. On one line the direction bit is written as it stands in the descriptor;
the decoder reads it as 0 there. -/
def encodePD (pd : PD) : BitVec 16 :=
  0#5 ++ BitVec.ofBool pd.actions.capture ++ BitVec.ofBool pd.actions.modeOff ++ BitVec.ofBool pd.actions.rsucc
    ++ BitVec.ofBool pd.actions.discard ++ BitVec.ofBool pd.actions.wait ++ pd.dummy.code ++ pd.dir.code
    ++ pd.rate.code ++ pd.lines.code

/-- The fields of a phase descriptor word, before the checks of R94 that are about descriptors. -/
def decodePDFields (w : BitVec 16) : Except PDFault PD :=
  if w.extractLsb 15 11 ≠ 0#5 then .error .reservedBits
  else
    let mk (l : Lines) (d : Dir) : PD :=
      { lines := l
        rate := if w.getLsbD 2 then .dtr else .sdr
        dir := d
        dummy := if w.getLsbD 5 then (if w.getLsbD 4 then .dp3 else .dp2) else (if w.getLsbD 4 then .dp1 else .none)
        actions := { wait := w.getLsbD 6, discard := w.getLsbD 7, rsucc := w.getLsbD 8, modeOff := w.getLsbD 9,
                     capture := w.getLsbD 10 } }
    let dir : Dir := if w.getLsbD 3 then .fromChip else .toChip
    match w.getLsbD 1, w.getLsbD 0 with
    | false, false => .ok (mk .l1 .toChip)
    | false, true => .ok (mk .l2 dir)
    | true, false => .ok (mk .l4 dir)
    | true, true => .error .linesReserved

/-- Decode a phase descriptor word, refusing by name the illegal words of 30_encoding.md R94. -/
def decodePD (w : BitVec 16) : Except PDFault PD :=
  match decodePDFields w with
  | .error e => .error e
  | .ok pd =>
    match pd.fault? with
    | some e => .error e
    | none => .ok pd

/-- The descriptor a word stands for: on one line the direction reads as TO_CHIP (30_encoding.md R93). -/
def PD.canonical (pd : PD) : PD := if pd.lines = .l1 then { pd with dir := .toChip } else pd

end Sys2Proof
end

