-- ==== Sys2Proof/Machine/Defaults.lean ====
section
/-! DEFINITION. The default configuration: the values of 00_scope.md R8 and the defaults of R9 and 30_encoding.md
R103. The opcode bytes, masks, bases and clock counts are marked `[from general knowledge, not in source]` by the
spec itself (93_implementation_defined.md G1 to G6): log 21. The seven OPEN opcodes and the eight OPEN budgets have
no default: they are free values (logs 2 and 3). -/

namespace Sys2Proof

/-- The default wire opcode bytes, 30_encoding.md R103. -/
def defaultOpcodes : List (Opc × Byte) :=
  [(.wren, 0x06#8), (.wrdi, 0x04#8), (.rdsr1, 0x05#8), (.rdsr2, 0x35#8), (.rdsr3, 0x15#8), (.wrsr1, 0x01#8),
   (.wrsr2, 0x31#8), (.wrsr3, 0x11#8)] ++
  [(.read, 0x03#8), (.fastRead, 0x0B#8), (.dualOut, 0x3B#8), (.dualIo, 0xBB#8), (.quadOut, 0x6B#8), (.quadIo, 0xEB#8),
   (.dtrRead, 0x0D#8), (.dualIoDtr, 0xBD#8), (.quadIoDtr, 0xED#8)] ++
  [(.pp, 0x02#8), (.se, 0x20#8), (.be32, 0x52#8), (.be64, 0xD8#8), (.ce, 0xC7#8)] ++
  [(.jedec, 0x9F#8), (.mfr, 0x90#8), (.uid, 0x4B#8), (.secRead, 0x48#8), (.secProg, 0x42#8), (.secErase, 0x44#8)] ++
  [(.en4b, 0xB7#8), (.ex4b, 0xE9#8), (.enqpi, 0x38#8), (.exqpi, 0xFF#8), (.rsten, 0x66#8), (.rst, 0x99#8)]

/-- The default configuration (00_scope.md R8, R9). A table left empty means the defaults of its lookup (`Cfg.opcode`,
`Cfg.shape`, `Cfg.dummySeq`, `Cfg.chkSet`). -/
def Cfg.default : Cfg where
  pageSize := 256
  erase4k := 4096
  erase32k := 32768
  erase64k := 65536
  addrBytes := #v[3, 4]
  srCount := 3
  secCount := 3
  secSpacing := 4096
  uidBytes := 8
  nDtrPresets := 3
  lines := [.l1, .l2, .l4]
  opc := []
  opc4 := []
  busyMask := 0x01#8
  welMask := 0x02#8
  qeMask := 0x02#8
  secBase := 0x001000#32
  secSize := 256
  dtrClocks := #v[6, 4, 7]
  dtrSeq := []
  dummyByte := 0xFF#8
  shapes := []
  budgets := []
  pollImpl := .reads
  cksumBits := 32
  readVariant := #v[.fastRead, .readDtr, .readQuadIo, .readQuadIoDtr]
  chkLegalSet := none
  chkLen := 4
  jedecBytes := 3
  mfrBytes := 2
  operandBits := 32

end Sys2Proof
end

