-- ==== Sys2Proof/Machine/State.lean ====
section
/-! DEFINITION. The state of the block (10_state.md R20 to R34, R47, R48), what stands for the sequencer position
(R27, R28), and the queues through which HOST and XP act on it. Plain data throughout. -/

namespace Sys2Proof.Machine

/-- The states `POS.st` of 10_state.md R28. -/
inductive SeqSt
  | idle | check | sel | opc | adr | dmy | dat | desel | commit | poll
  deriving DecidableEq, Repr

/-- The sequencer position (10_state.md R27). -/
structure Pos where
  st : SeqSt
  i : Nat
  deriving DecidableEq, Repr

/-- Where a transmitted data byte comes from (41_sequencer_poller.md R159): the TX operand or ARG. -/
inductive TxSrc
  | fifo | arg
  deriving DecidableEq, Repr

/-- What one poll waits for (41_sequencer_poller.md R168): the mask, the value the masked status must have, the class
whose budget is the number of reads allowed (R171), and the error of a timeout. -/
structure PollSpec where
  mask : Byte
  target : Byte
  cls : BudgetClass
  err : Result
  deriving DecidableEq, Repr

/-- One item of what the running command still has to do: the "ordered list of Phase Descriptors" of a Command
Descriptor (10_state.md R41), its chip-select calls, and the steps of 41_sequencer_poller.md R151 and 48_composite.md
R292 that make no call. Each calling item belongs to one state of R28. -/
inductive Op
  /-- SEL: `select_low` (R154). -/
  | select
  /-- OPC: the opcode phase (R155); `off` adds MODE_OFF to it (46_mode_reset.md R254). -/
  | opcode (o : Opc) (off : Bool)
  /-- ADR or DMY: one phase with a byte of its own (R156, R157). -/
  | phase (pos : Pos) (pd : PD) (tx : Byte)
  /-- DMY: the transfers of a dummy preset still to make (40_phase_encoder.md R132). -/
  | preset (pos : Pos) (modes : List Mode)
  /-- DAT: received data phases from index `i` on (R158). -/
  | rx (m : Width) (i count : Nat)
  /-- DAT: the one received data phase the sequencer keeps for itself (R158). -/
  | rxi
  /-- DAT: transmitted data phases from index `i` on (R159). -/
  | tx (m : Width) (i count : Nat) (src : TxSrc)
  /-- The MODE_OFF action of a phase whose transfer is done (40_phase_encoder.md R137). -/
  | modeOff (pos : Pos)
  /-- DESEL: `select_high` (R160). -/
  | deselect
  /-- The abort path's `select_high` (60_exceptions.md R318) after a failure at `pos`. -/
  | abort (err : Result) (pos : Pos)
  /-- POLL with POLL_IMPL = ASSISTED: `auto_poll` (R173). -/
  | autoPoll (p : PollSpec)
  /-- COMMIT (R161). -/
  | commit (f : Flag) (v : Bool)
  /-- The start of a wait (R162, R168). -/
  | poll (p : PollSpec)
  /-- The test after a poll read (R168). -/
  | pollTest (p : PollSpec)
  /-- The test of QE in ENTER_QPI (46_mode_reset.md R253 step 3). -/
  | qeTest
  /-- WRITE loads OFF, REM and SRCI (48_composite.md R292 step 3). -/
  | loadWrite
  /-- The head of WRITE's loop (48_composite.md R292 step 4). -/
  | chunk
  /-- The end of WRITE's loop body: advance OFF, SRCI and REM. -/
  | advance (size : Nat)
  /-- `finish` (R163). -/
  | finish (r : Result)
  deriving DecidableEq, Repr

/-- The working copies of 41_sequencer_poller.md R153 (and `dtr`, 48_composite.md R291), with the operand format of
the running command (30_encoding.md R91). -/
structure Sampled where
  addr : Word
  addr2 : Word
  len : Word
  arg : Byte
  a4b : Bool
  qpi : Bool
  dtr : Bool
  fmt : Format
  deriving DecidableEq, Repr

/-- What the agents outside the block do to it (00_scope.md R15): HOST's accesses to the register image
(10_state.md R37) and its reset (70_reset_and_hazards.md R350), and answers of XP. -/
inductive EnvAct
  | write (offset : Nat) (value : Word)
  | read (offset : Nat)
  | answers (as : List Answer)
  | reset
  deriving DecidableEq, Repr

/-- The whole state: the block's (10_state.md R20), its parameter record, and the model's queues and logs. -/
structure State where
  /-- The parameters (R45): no step changes them (log 1). -/
  cfg : Cfg
  -- operand registers (R21) and the command register (R26)
  addr : Word
  addr2 : Word
  len : Word
  arg : Byte
  cmd : Byte
  -- result registers (R22 to R24)
  result : Result
  run : Bool
  done : Bool
  cksum : Word
  rx : List Byte
  -- the Addressing-Mode Manager (R29 to R31), the Transport Mode (R32), the last poll byte (R34)
  a4b : Bool
  qpiEn : Bool
  dtrEn : Bool
  tm : Mode
  lastSr : Byte
  -- the position (R27, R28) and the working registers (R47, R48, R153, R158)
  todo : List Op
  smp : Sampled
  sr : Byte
  n : Word
  off : Word
  rem : Word
  srci : Word
  -- the FIFOs of the register image (R25, R37)
  txFifo : List Byte
  txUsed : Nat
  rxRead : Nat
  -- the model's own: inputs, logs, the index of the next free value
  env : List EnvAct
  xp : List Answer
  trace : List Event
  busOut : List Word
  freeCount : Nat
  deriving DecidableEq, Repr

/-- Why the machine stops with a fault. NO CONSTRUCTOR: nothing in the spec stops the block. Its errors are values of
RESULT (60_exceptions.md R310, R320) and its unbounded waits are states in which nothing can move (R326). -/
inductive Fault
  deriving DecidableEq, Repr

/-- Why an instruction has no meaning. -/
inductive Refusal
  /-- Raised by `exec`'s arm of an instruction that is not modelled yet; no arm of this model raises it. Safe. -/
  | notModelled (mnemonic : String)
  deriving DecidableEq, Repr

/-- The mode a command's opcode phase requests when QPI_EN = 0 (10_state.md R46). -/
def narrowMode : Mode := { lines := .l1, rate := .sdr, dir := .toChip }

/-- The machine right after reset (10_state.md R46, 70_reset_and_hazards.md R351): the stated values; zero where the
table says unspecified (log 4); nothing placed in any queue, the TXDATA FIFO among them (log 35). -/
def State.reset : State where
  cfg := Cfg.default
  addr := 0
  addr2 := 0
  len := 0
  arg := 0
  cmd := 0x00#8
  result := .ok
  run := false
  done := false
  cksum := 0
  rx := []
  a4b := false
  qpiEn := false
  dtrEn := false
  tm := narrowMode
  lastSr := 0
  todo := []
  smp := { addr := 0, addr2 := 0, len := 0, arg := 0, a4b := false, qpi := false, dtr := false, fmt := .fN }
  sr := 0
  n := 0
  off := 0
  rem := 0
  srci := 0
  txFifo := []
  txUsed := 0
  rxRead := 0
  env := []
  xp := []
  trace := []
  busOut := []
  freeCount := 0

end Sys2Proof.Machine
end

