-- ==== Sys2Proof/Machine/Phase.lean ====
section
/-! DEFINITION. The phase descriptors the sequencer builds and what one phase asks and returns
(30_encoding.md R100; 40_phase_encoder.md R126, R130, R137 to R140). -/

namespace Sys2Proof

/-- Normalisation of a requested mode (40_phase_encoder.md R126): direction means nothing on one line. -/
def Mode.norm (m : Mode) : Mode :=
  match m.lines with
  | .l1 => { m with dir := .toChip }
  | _ => m

/-- The mode a phase descriptor requests, normalised (40_phase_encoder.md R127). -/
def PD.want (pd : PD) : Mode := Mode.norm { lines := pd.lines, rate := pd.rate, dir := pd.dir }

/-- A phase with MODE_OFF among its actions (40_phase_encoder.md R137). -/
def PD.withModeOff (pd : PD) : PD := { pd with actions := { pd.actions with modeOff := true } }

/-- The dummy field of a preset. -/
def Preset.dummy : Preset → Dummy
  | .p1 => .dp1 | .p2 => .dp2 | .p3 => .dp3

/-- The transfer modes `DTR_DUMMY_SEQ[k]` (40_phase_encoder.md R132): those the configuration gives, else one transfer
in (L4, DTR, FROM_CHIP) per dummy clock. -/
def Cfg.dummySeq (c : Cfg) (k : Preset) (clocks : Nat) : List Mode :=
  (c.dtrSeq.lookup k).getD (List.replicate clocks { lines := .l4, rate := .dtr, dir := .fromChip })

/-- The transfers a phase's dummy field asks for in place of its own; none when it names no preset. -/
def Cfg.dummyModes (c : Cfg) (d : Dummy) : List Mode :=
  match d with
  | .none => []
  | .dp1 => c.dummySeq .p1 c.dtrClocks[0]
  | .dp2 => c.dummySeq .p2 c.dtrClocks[1]
  | .dp3 => c.dummySeq .p3 c.dtrClocks[2]

end Sys2Proof

namespace Sys2Proof.Machine

/-- `eff(l, qpi)` (30_encoding.md R100): with QPI_EN = 1 a single-line phase goes out on four lines. -/
def eff (l : Lines) (qpi : Bool) : Lines :=
  match l, qpi with
  | .l1, true => .l4
  | l, _ => l

/-- `off(l, r, qpi, last)` (40_phase_encoder.md R140): whether a phase carries MODE_OFF. The constructors below apply it to
data phases, as R140 writes them; an address or dummy phase that is the last of its bracket gets it in `headPhases` (log
17). -/
def offAction (m : Width) (qpi last : Bool) : Bool :=
  last && !qpi && !(m.lines == .l1 && m.rate == .sdr)

/-- `PD_OPC(qpi)`. `off` adds MODE_OFF, for EXIT_QPI only (46_mode_reset.md R254). -/
def pdOpc (qpi off : Bool) : PD :=
  { lines := eff .l1 qpi, rate := .sdr, dir := .toChip, dummy := .none
    actions := { wait := true, discard := true, modeOff := off } }

/-- `PD_ADR(l, r, qpi)`. -/
def pdAdr (m : Width) (qpi : Bool) : PD :=
  { lines := eff m.lines qpi, rate := m.rate, dir := .toChip, dummy := .none
    actions := { wait := true, discard := true } }

/-- `PD_DMY(l, r, d, qpi)`. -/
def pdDmy (l : Lines) (r : Rate) (d : Dir) (qpi : Bool) : PD :=
  { lines := eff l qpi, rate := r, dir := d, dummy := .none
    actions := { wait := true, discard := true } }

/-- `PD_DPK(k)`. -/
def pdDpk (k : Preset) : PD :=
  { lines := .l4, rate := .dtr, dir := .fromChip, dummy := k.dummy
    actions := { wait := true, discard := true } }

/-- `PD_RX(l, r, qpi, last)`. -/
def pdRx (m : Width) (qpi last : Bool) : PD :=
  { lines := eff m.lines qpi, rate := m.rate, dir := .fromChip, dummy := .none
    actions := { wait := true, capture := true, modeOff := offAction m qpi last } }

/-- `PD_RXI(qpi)`. -/
def pdRxi (qpi : Bool) : PD :=
  { lines := eff .l1 qpi, rate := .sdr, dir := .fromChip, dummy := .none
    actions := { wait := true } }

/-- `PD_TX(l, r, qpi, last)`. -/
def pdTx (m : Width) (qpi last : Bool) : PD :=
  { lines := eff m.lines qpi, rate := m.rate, dir := .toChip, dummy := .none
    actions := { rsucc := true, wait := last, modeOff := offAction m qpi last } }

/-- What a phase without a dummy preset returns for XP's answer to its transfer (40_phase_encoder.md R130, R136,
R138); `none` is XferFail. -/
def phaseRet (acts : Actions) (a : XferAns) : Option PhaseRet :=
  match a with
  | .done rx => some (if acts.rsucc then .success true else if acts.discard then .nothing else .data rx)
  | .notAccepted => if acts.rsucc then some (.success false) else none
  | .error => none

/-- The error a transport failure becomes, by the kind of phase it arose in (41_sequencer_poller.md R164,
40_phase_encoder.md R139). -/
def failKind (st : SeqSt) : Result :=
  match st with
  | .dat => .transportDataFailed
  | _ => .transportCommandFailed

end Sys2Proof.Machine
end

