-- ==== Sys2Proof/Machine/Descriptors.lean ====
section
/-! DEFINITION. Command Descriptors (41_sequencer_poller.md R150): the record type, the shapes of the catalogue
(42_status.md R180, 43_read.md R210, 45_id_security.md R235, 47_checksum_pagebuffer.md R270) and the lookups of
the configuration's tables. The descriptors themselves stand with their commands. -/

namespace Sys2Proof

/-- One line, single rate. -/
def w1S : Width := { lines := .l1, rate := .sdr }

/-- The shape of a bracket whose phases are all on one line at single rate, with no dummy item. -/
def plainShape : Shape := { addrM := w1S, dummy := [], dataM := w1S }

/-- The shape of each wire instruction, as its rule gives it. -/
def defaultShape (o : Opc) : Shape :=
  match o with
  | .fastRead => { addrM := w1S, dummy := [.bytes 1 1 .l1 .sdr .toChip], dataM := w1S }
  | .dualOut => { addrM := w1S, dummy := [.bytes 1 1 .l1 .sdr .toChip], dataM := { lines := .l2, rate := .sdr } }
  | .dualIo => { addrM := { lines := .l2, rate := .sdr }, dummy := [.bytes 1 1 .l2 .sdr .toChip],
                 dataM := { lines := .l2, rate := .sdr } }
  | .quadOut => { addrM := w1S, dummy := [.bytes 1 1 .l1 .sdr .toChip], dataM := { lines := .l4, rate := .sdr } }
  | .quadIo => { addrM := { lines := .l4, rate := .sdr },
                 dummy := [.bytes 1 1 .l4 .sdr .toChip, .bytes 2 2 .l4 .sdr .fromChip],
                 dataM := { lines := .l4, rate := .sdr } }
  | .dtrRead => { addrM := { lines := .l1, rate := .dtr }, dummy := [.preset .p1], dataM := { lines := .l1, rate := .dtr } }
  | .dualIoDtr => { addrM := { lines := .l2, rate := .dtr }, dummy := [.bytes 1 1 .l2 .dtr .toChip, .preset .p2],
                    dataM := { lines := .l2, rate := .dtr } }
  | .quadIoDtr => { addrM := { lines := .l4, rate := .dtr }, dummy := [.bytes 1 1 .l4 .dtr .toChip, .preset .p3],
                    dataM := { lines := .l4, rate := .dtr } }
  | .uid => { addrM := w1S, dummy := [.bytes 4 5 .l1 .sdr .toChip], dataM := w1S }
  | .secRead => { addrM := w1S, dummy := [.bytes 1 1 .l1 .sdr .toChip], dataM := w1S }
  | _ => plainShape

/-- The shape fields `CD[c]` in force (00_scope.md R9), of the command whose wire instruction is `o`. -/
def Cfg.shape (c : Cfg) (o : Opc) : Shape := (c.shapes.lookup o).getD (defaultShape o)

/-- The default of `OPC[o]`: the table of 30_encoding.md R103; the seven OPEN opcodes are free (log 2). -/
def defaultOpcode (o : Opc) : Byte := (defaultOpcodes.lookup o).getD (Config.openOpcode o)

/-- Opcode selection (30_encoding.md R99): `OPC[c]` when the sampled A4B is 0, `OPC4[c]` when it is 1. -/
def Cfg.opcode (c : Cfg) (a4b : Bool) (o : Opc) : Byte :=
  let opc := (c.opc.lookup o).getD (defaultOpcode o)
  if a4b then (c.opc4.lookup o).getD opc else opc

/-- `SEC_BASE[0]` to `SEC_BASE[SEC_COUNT - 1]`, each `SEC_SPACING` above the one before (00_scope.md R9, 45_id_security.md
R239). -/
def Cfg.secBases (c : Cfg) : List Word := (List.range c.secCount).map fun i => c.secBase + BitVec.ofNat 32 (i * c.secSpacing)

/-- `CHK_LEGAL_SET` (47_checksum_pagebuffer.md R273): by default the set of the security-register bases. -/
def Cfg.chkSet (c : Cfg) : List Word := c.chkLegalSet.getD c.secBases

/-- What ADDR, ADDR2 or LEN holds after a write of `v`: the low bits that the register has (00_scope.md R9, log 38). -/
def Cfg.operand (c : Cfg) (v : Word) : Word := BitVec.ofNat 32 (v.toNat % 2 ^ c.operandBits)

/-- `BUDGET[k]` (41_sequencer_poller.md R171). -/
def Cfg.budget (c : Cfg) (k : BudgetClass) : Nat := (c.budgets.lookup k).getD ((Config.openBudget k).val + 1)

/-- The wire instruction of a read command (43_read.md R201 to R209). -/
def ReadCmd.opc : ReadCmd → Opc
  | .readData => .read | .fastRead => .fastRead | .readDualOut => .dualOut | .readDualIo => .dualIo
  | .readQuadOut => .quadOut | .readQuadIo => .quadIo | .readDtr => .dtrRead | .readDualIoDtr => .dualIoDtr
  | .readQuadIoDtr => .quadIoDtr

/-- The class with a given index (41_sequencer_poller.md R171). -/
def budgetClassOf (arg : Byte) : Option BudgetClass :=
  [BudgetClass.wel, .program, .erase4k, .erase32k, .erase64k, .eraseChip, .srWrite, .checksum][arg.toNat]?

end Sys2Proof

namespace Sys2Proof.Machine

/-- Which address phases a command has (30_encoding.md R97). `a4bSizedTwice` is CHECKSUM_CALC's: ADDR, then ADDR2
(47_checksum_pagebuffer.md R271). -/
inductive AddrKind
  | noAddr | a4bSized | zero3 | a4bSizedTwice
  deriving DecidableEq, Repr

/-- How many data phases (41_sequencer_poller.md R150 `count`). -/
inductive Count
  | len
  | const (n : Nat)
  | arg1
  deriving DecidableEq, Repr

/-- The data phases of a command. -/
inductive DataKind
  | noData
  | rx (c : Count)
  | rxi
  | tx (c : Count)
  deriving DecidableEq, Repr

/-- The trailing wait. -/
inductive Post
  | noPoll
  | pollBusy (k : BudgetClass)
  | pollWel
  deriving DecidableEq, Repr

/-- One operand check (41_sequencer_poller.md R152): the predicates 60_exceptions.md R313 lists. -/
inductive Check
  | lenPositive                -- len >= 1
  | lenAtMost (n : Nat)        -- len <= n
  | addrFits                   -- addr < 2^(8n), n = ADDR_BYTES(a4b)
  | addrInSecBase              -- addr one of SEC_BASE[0..SEC_COUNT-1]
  | addrInChkSet               -- addr in CHK_LEGAL_SET
  | addrLeAddr2                -- addr <= addr2
  | addr2Fits                  -- addr2 < 2^(8n)
  | addrInPage                 -- addr < PAGE_SIZE
  | rangeInPage                -- addr + len <= PAGE_SIZE
  | rangeFits                  -- addr + len <= 2^(8n)
  | argAtMost (n : Nat)        -- arg <= n
  | addrFitsUnlessArg (n : Nat)  -- arg = n or addr < 2^(8n)
  deriving DecidableEq, Repr

/-- A Command Descriptor (41_sequencer_poller.md R150). Its widths and dummy items are the shape of `opc`, which is a
parameter (`Cfg.shape`), except where a rule writes the descriptor out whole: the internal status reads
(41_sequencer_poller.md R169, 46_mode_reset.md R253), whose `shape` is fixed. `opcodeOff` marks EXIT_QPI's opcode phase
(46_mode_reset.md R254). -/
structure CmdDesc where
  opc : Opc
  addr : AddrKind := .noAddr
  data : DataKind := .noData
  commit : Option (Flag × Bool) := none
  post : Post := .noPoll
  checks : List Check := []
  opcodeOff : Bool := false
  shape : Option Shape := none
  deriving DecidableEq, Repr

/-- The shape fields of a bracket of descriptor `d`. -/
def CmdDesc.shapeIn (d : CmdDesc) (c : Cfg) : Shape := d.shape.getD (c.shape d.opc)

/-- The descriptor of a read command (43_read.md R200): the nine differ in their opcode and its shape. -/
def readDesc (v : ReadCmd) : CmdDesc :=
  { opc := v.opc, addr := .a4bSized, data := .rx .len, checks := [.lenPositive, .addrFits] }

end Sys2Proof.Machine
end

