-- ==== Sys2Proof/Machine/Operands.lean ====
section
/-! DEFINITION. Operands: address assembly (30_encoding.md R97), the operand checks (41_sequencer_poller.md R152,
60_exceptions.md R313), data counts, and WRITE's chunk arithmetic (48_composite.md R293). Comparisons are of natural
numbers, so a sum of two 32-bit operands keeps its carry (R292: "sum taken in 33 bits"). -/

namespace Sys2Proof.Machine

/-- `ADDR_BYTES(a4b)` (00_scope.md R8): by default 3 and 4. -/
def addrCount (c : Cfg) (a4b : Bool) : Nat := if a4b then c.addrBytes[1] else c.addrBytes[0]

/-- Address assembly, most significant byte first (30_encoding.md R97, 20_memory.md R67): byte `i` of `n` is
`a[8(n-i)-1 : 8(n-i-1)]`. -/
def addressBytes (n : Nat) (a : Word) : List Byte :=
  match n with
  | 0 => []
  | n + 1 => a.extractLsb' (8 * n) 8 :: addressBytes n a

/-- The address bytes of a bracket (41_sequencer_poller.md R156). -/
def addrPhaseBytes (c : Cfg) (k : AddrKind) (a4b : Bool) (addr addr2 : Word) : List Byte :=
  match k with
  | .noAddr => []
  | .a4bSized => addressBytes (addrCount c a4b) addr
  | .zero3 => [0x00#8, 0x00#8, 0x00#8]
  | .a4bSizedTwice => addressBytes (addrCount c a4b) addr ++ addressBytes (addrCount c a4b) addr2

/-- The first number an address may not reach (20_memory.md R71). -/
def addrLimit (c : Cfg) (a4b : Bool) : Nat := 2 ^ (8 * addrCount c a4b)

/-- Whether one operand check holds of the sampled operands (60_exceptions.md R313). -/
def Check.holds (k : Check) (c : Cfg) (p : Sampled) : Bool :=
  match k with
  | .lenPositive => 1 ≤ p.len.toNat
  | .lenAtMost n => p.len.toNat ≤ n
  | .addrFits => p.addr.toNat < addrLimit c p.a4b
  | .addrInSecBase => c.secBases.contains p.addr
  | .addrInChkSet => c.chkSet.contains p.addr
  | .addrLeAddr2 => p.addr.toNat ≤ p.addr2.toNat
  | .addr2Fits => p.addr2.toNat < addrLimit c p.a4b
  | .addrInPage => p.addr.toNat < c.pageSize
  | .rangeInPage => p.addr.toNat + p.len.toNat ≤ c.pageSize
  | .rangeFits => p.addr.toNat + p.len.toNat ≤ addrLimit c p.a4b
  | .argAtMost n => p.arg.toNat ≤ n
  | .addrFitsUnlessArg n => p.arg.toNat = n || decide (p.addr.toNat < addrLimit c p.a4b)

/-- All checks of a command, made before its first transport call (41_sequencer_poller.md R152). -/
def checksHold (ks : List Check) (c : Cfg) (p : Sampled) : Bool := ks.all (fun k => k.holds c p)

/-- The number of data phases (41_sequencer_poller.md R150). -/
def Count.value (k : Count) (len : Nat) : Nat :=
  match k with
  | .len => len
  | .const n => n
  | .arg1 => 1

/-- The number of data phases of a bracket. -/
def DataKind.phases (k : DataKind) (len : Nat) : Nat :=
  match k with
  | .noData => 0
  | .rx n => n.value len
  | .rxi => 1
  | .tx n => n.value len

/-- The source of a transmitted byte (41_sequencer_poller.md R159): ARG for `ARG1`, TX otherwise. -/
def Count.src (k : Count) : TxSrc :=
  match k with
  | .arg1 => .arg
  | _ => .fifo

/-- The size of WRITE's next chunk: from `off` to the next page boundary, or what remains (48_composite.md R293). -/
def chunkSize (page off rem : Nat) : Nat := min (page - off % page) rem

end Sys2Proof.Machine
end

