-- ==== Sys2Proof/Machine/Flags.lean ====
section
/-! DEFINITION. Flags: the three status bits the block acts on (10_state.md R35), the mode flags (R29 to R31), the
codes of RESULT (60_exceptions.md R310), and the images STATUS, FLAGS and TMODE (10_state.md R38 to R40). -/

namespace Sys2Proof

/-- The code of a result (60_exceptions.md R310). -/
def Result.code : Result → BitVec 4
  | .ok => 0
  | .transportCommandFailed => 1
  | .transportDataFailed => 2
  | .invalidArgument => 3
  | .busyTimeout => 4
  | .writeEnableFailed => 5

end Sys2Proof

namespace Sys2Proof.Machine

/-- Whether a status byte ends a wait (41_sequencer_poller.md R168): `(sr AND mask) = match`. -/
def statusMatches (p : PollSpec) (sr : Byte) : Bool := sr &&& p.mask == p.target

/-- The Busy/Ready wait of a class: until BUSY = 0 (41_sequencer_poller.md R162). -/
def busyWait (c : Cfg) (k : BudgetClass) : PollSpec :=
  { mask := c.busyMask, target := 0x00#8, cls := k, err := .busyTimeout }

/-- The write-enable wait: until WEL = 1 (41_sequencer_poller.md R170). -/
def welWait (c : Cfg) : PollSpec :=
  { mask := c.welMask, target := c.welMask, cls := .wel, err := .writeEnableFailed }

/-- Whether status register 2 shows QE = 1 (46_mode_reset.md R253 step 3). -/
def quadEnabled (c : Cfg) (sr2 : Byte) : Bool := !(sr2 &&& c.qeMask == 0x00#8)

/-- `x[f] <- v` (41_sequencer_poller.md R161): the only writer of the mode flags. -/
def setFlag (f : Flag) (v : Bool) (s : State) : State :=
  match f with
  | .a4b => { s with a4b := v }
  | .qpiEn => { s with qpiEn := v }
  | .dtrEn => { s with dtrEn := v }

/-- STATUS (10_state.md R38). -/
def State.statusReg (s : State) : Byte :=
  s.result.code ++ 0#2 ++ BitVec.ofBool s.done ++ BitVec.ofBool s.run

/-- FLAGS (10_state.md R39). -/
def State.flagsReg (s : State) : Byte :=
  0#5 ++ BitVec.ofBool s.dtrEn ++ BitVec.ofBool s.qpiEn ++ BitVec.ofBool s.a4b

/-- TMODE (10_state.md R40), in the coding of 30_encoding.md R93. -/
def State.tmodeReg (s : State) : Byte :=
  0#4 ++ s.tm.dir.code ++ s.tm.rate.code ++ s.tm.lines.code

/-- RXCOUNT (10_state.md R24). -/
def State.rxCount (s : State) : Word := BitVec.ofNat 32 s.rx.length

end Sys2Proof.Machine
end

