-- ==== Sys2Proof/Machine/Catalogue.lean ====
section
/-! DEFINITION. The Command Descriptor table (10_state.md R41, 41_sequencer_poller.md R150): "immutable constants, one
per supported flash instruction", each as its rule writes it out. -/

namespace Sys2Proof.Machine

-- 42_status.md
/-- R181. -/
def writeEnableDesc : CmdDesc := { opc := .wren, post := .pollWel }
/-- R182. -/
def writeDisableDesc : CmdDesc := { opc := .wrdi }
/-- R183. -/
def readSr1Desc : CmdDesc := { opc := .rdsr1, data := .rx (.const 1) }
/-- R184. -/
def readSr2Desc : CmdDesc := { opc := .rdsr2, data := .rx (.const 1) }
/-- R185. -/
def readSr3Desc : CmdDesc := { opc := .rdsr3, data := .rx (.const 1) }
/-- R186. -/
def writeSr1Desc : CmdDesc := { opc := .wrsr1, data := .tx .arg1, post := .pollBusy .srWrite }
/-- R187. -/
def writeSr2Desc : CmdDesc := { opc := .wrsr2, data := .tx .arg1, post := .pollBusy .srWrite }
/-- R188. -/
def writeSr3Desc : CmdDesc := { opc := .wrsr3, data := .tx .arg1, post := .pollBusy .srWrite }
/-- A poll read (41_sequencer_poller.md R169): no dummy, one line, whatever `CD[READ_SR1]` is. -/
def statusReadDesc : CmdDesc := { opc := .rdsr1, data := .rxi, shape := some plainShape }
/-- The internal read of status register 2 (46_mode_reset.md R253 step 2). -/
def statusRead2Desc : CmdDesc := { opc := .rdsr2, data := .rxi, shape := some plainShape }

-- 43_read.md: `readDesc` of Descriptors.lean, for R201 to R209

-- 44_program_erase.md
/-- R221. -/
def pageProgramDesc (c : Cfg) : CmdDesc :=
  { opc := .pp, addr := .a4bSized, data := .tx .len, post := .pollBusy .program
    checks := [.lenPositive, .lenAtMost c.pageSize, .addrFits] }
/-- R222. -/
def sectorEraseDesc : CmdDesc := { opc := .se, addr := .a4bSized, post := .pollBusy .erase4k, checks := [.addrFits] }
/-- R223. -/
def block32EraseDesc : CmdDesc := { opc := .be32, addr := .a4bSized, post := .pollBusy .erase32k, checks := [.addrFits] }
/-- R224. -/
def block64EraseDesc : CmdDesc := { opc := .be64, addr := .a4bSized, post := .pollBusy .erase64k, checks := [.addrFits] }
/-- R225. -/
def chipEraseDesc : CmdDesc := { opc := .ce, post := .pollBusy .eraseChip }

-- 45_id_security.md
/-- R236. -/
def readJedecIdDesc (c : Cfg) : CmdDesc := { opc := .jedec, data := .rx (.const c.jedecBytes) }
/-- R237. -/
def readMfrIdDesc (c : Cfg) : CmdDesc := { opc := .mfr, addr := .zero3, data := .rx (.const c.mfrBytes) }
/-- R238. -/
def readUniqueIdDesc (c : Cfg) : CmdDesc := { opc := .uid, data := .rx (.const c.uidBytes) }
/-- R240; the checks are R239, and 20_memory.md R71's on the width of the address (log 36). -/
def secReadDesc (c : Cfg) : CmdDesc :=
  { opc := .secRead, addr := .a4bSized, data := .rx .len
    checks := [.addrInSecBase, .lenPositive, .lenAtMost c.secSize, .addrFits] }
/-- R241; the checks are R239 and 20_memory.md R71 (log 36). -/
def secProgramDesc (c : Cfg) : CmdDesc :=
  { opc := .secProg, addr := .a4bSized, data := .tx .len, post := .pollBusy .program
    checks := [.addrInSecBase, .lenPositive, .lenAtMost c.secSize, .addrFits] }
/-- R242; the checks are R239's membership and 20_memory.md R71 (log 36). -/
def secEraseDesc : CmdDesc :=
  { opc := .secErase, addr := .a4bSized, post := .pollBusy .erase4k, checks := [.addrInSecBase, .addrFits] }

-- 46_mode_reset.md
/-- R251. -/
def enter4bDesc : CmdDesc := { opc := .en4b, commit := some (.a4b, true) }
/-- R252. -/
def exit4bDesc : CmdDesc := { opc := .ex4b, commit := some (.a4b, false) }
/-- The second bracket of ENTER_QPI, R253 steps 4 and 5. -/
def enterQpiDesc : CmdDesc := { opc := .enqpi, commit := some (.qpiEn, true) }
/-- R254. -/
def exitQpiDesc : CmdDesc := { opc := .exqpi, commit := some (.qpiEn, false), opcodeOff := true }
/-- The first bracket of SOFT_RESET, R257 step 2. -/
def resetEnableDesc : CmdDesc := { opc := .rsten }
/-- The second bracket of SOFT_RESET, R257 step 3. -/
def resetDesc : CmdDesc := { opc := .rst }

-- 47_checksum_pagebuffer.md
/-- R271; the checks are R273. -/
def checksumCalcDesc : CmdDesc :=
  { opc := .chkCalc, addr := .a4bSizedTwice, post := .pollBusy .checksum
    checks := [.addrInChkSet, .addrLeAddr2, .addr2Fits] }
/-- R272. -/
def checksumReadDesc (c : Cfg) : CmdDesc := { opc := .chkRead, data := .rx (.const c.chkLen) }
/-- R275. -/
def pbClearDesc : CmdDesc := { opc := .pbClear }
/-- R276; the checks are R276's, and 20_memory.md R71's on the width of the address (log 36). -/
def pbWriteDesc : CmdDesc :=
  { opc := .pbWrite, addr := .a4bSized, data := .tx .len, checks := [.lenPositive, .addrInPage, .rangeInPage, .addrFits] }
/-- R277; the checks are those of R276 and R71 (log 36). -/
def pbReadDesc : CmdDesc :=
  { opc := .pbRead, addr := .a4bSized, data := .rx .len, checks := [.lenPositive, .addrInPage, .rangeInPage, .addrFits] }
/-- R278. -/
def pbProgramDesc : CmdDesc := { opc := .pbProg, addr := .a4bSized, post := .pollBusy .program, checks := [.addrFits] }
/-- R279. -/
def pbLoadDesc : CmdDesc := { opc := .pbLoad, addr := .a4bSized, checks := [.addrFits] }

end Sys2Proof.Machine
end

