-- ==== Sys2Proof/Machine/Ops.lean ====
section
/-! DEFINITION. The Command Sequencer, the Transport Phase Encoder and the Busy/Ready State Machine. A command becomes
a list of `Op`s (the calls and phases of 41_sequencer_poller.md R154 to R162, in order); `pendingCall` is the one
transport call its head makes next, `answerCall` what XP's answer does, `settle` the steps that make no call, and
`drive` the run against the answers XP has given. One call at a time, acted on before the next (60_exceptions.md R316).
Taking an error is `raiseError` (R318), the return from it `finish` (41_sequencer_poller.md R163, R320). -/

namespace Sys2Proof.Machine

/-! ## Building the list -/

/-- `Phase(pd, tx)` as items (40_phase_encoder.md R130): a dummy preset's transfers in place of the phase's own. -/
def phaseOps (c : Cfg) (pos : Pos) (pd : PD) (tx : Byte) : List Op :=
  if pd.dummy = .none then [.phase pos pd tx]
  else .preset pos (c.dummyModes pd.dummy) :: (if pd.actions.modeOff then [.modeOff pos] else [])

/-- One phase with its position and the byte it sends. -/
structure PhaseAt where
  pos : Pos
  pd : PD
  tx : Byte
  deriving DecidableEq, Repr

/-- The index of POS at address phase `i` of a bracket (10_state.md R28): `i`; for CHECKSUM_CALC's two addresses it starts
again at 0 for ADDR2, so that it stays below ADDR_BYTES (R27, log 15). -/
def addrIndex (c : Cfg) (k : AddrKind) (a4b : Bool) (i : Nat) : Nat :=
  match k with
  | .a4bSizedTwice => i % addrCount c a4b
  | .noAddr | .a4bSized | .zero3 => i

/-- The address phases (41_sequencer_poller.md R156). -/
def addrPhases (c : Cfg) (p : Sampled) (d : CmdDesc) (addr addr2 : Word) : List PhaseAt :=
  (addrPhaseBytes c d.addr p.a4b addr addr2).zipIdx.map fun (b, i) =>
    { pos := { st := .adr, i := addrIndex c d.addr p.a4b i }, pd := pdAdr (d.shapeIn c).addrM p.qpi, tx := b }

/-- One dummy item, the `i`-th (41_sequencer_poller.md R157). -/
def dummyPhases (c : Cfg) (p : Sampled) (i : Nat) (item : DummyItem) : List PhaseAt :=
  match item with
  | .bytes n n4 l r d =>
    List.replicate (if p.a4b then n4 else n) { pos := { st := .dmy, i := i }, pd := pdDmy l r d p.qpi, tx := c.dummyByte }
  | .preset k => [{ pos := { st := .dmy, i := i }, pd := pdDpk k, tx := c.dummyByte }]

/-- Whether a phase that is the last of its bracket carries MODE_OFF (40_phase_encoder.md R137; EXIT_QPI, `leaving`:
46_mode_reset.md R254). -/
def closesMode (p : Sampled) (leaving : Bool) (pd : PD) : Bool :=
  (leaving && p.qpi) || offAction { lines := pd.lines, rate := pd.rate } p.qpi true

/-- Address and dummy phases, the last of which is the last of its bracket. -/
def markLast (off : PD → Bool) (xs : List PhaseAt) : List PhaseAt :=
  match xs with
  | [] => []
  | [x] => [if off x.pd then { x with pd := x.pd.withModeOff } else x]
  | x :: rest => x :: markLast off rest

/-- The address and dummy phases of a bracket. When no data phase follows, the last of them carries MODE_OFF as R137 says
of the last phase of a bracket (log 17). -/
def headPhases (c : Cfg) (p : Sampled) (d : CmdDesc) (addr addr2 : Word) (len : Nat) : List PhaseAt :=
  let xs := addrPhases c p d addr addr2 ++
    ((d.shapeIn c).dummy.zipIdx.map fun (item, i) => dummyPhases c p i item).flatten
  if d.data.phases len = 0 then markLast (closesMode p d.opcodeOff) xs else xs

/-- The data phases (41_sequencer_poller.md R158, R159). -/
def dataOps (m : Width) (data : DataKind) (len : Nat) : List Op :=
  match data with
  | .noData => []
  | .rx k => [.rx m 0 (k.value len)]
  | .rxi => [.rxi]
  | .tx k => [.tx m 0 (k.value len) k.src]

/-- `Bracket(d)`: select, opcode, address, dummy and data phases, deselect (41_sequencer_poller.md R154 to R160,
30_encoding.md R95). -/
def bracketOps (c : Cfg) (p : Sampled) (d : CmdDesc) (addr addr2 : Word) (len : Nat) : List Op :=
  [Op.select] ++
  [Op.opcode d.opc (d.opcodeOff && p.qpi)] ++
  (headPhases c p d addr addr2 len).flatMap (fun x => phaseOps c x.pos x.pd x.tx) ++
  dataOps (d.shapeIn c).dataM d.data len ++
  [Op.deselect]

/-- Commit and trailing wait (41_sequencer_poller.md R161, R162). -/
def tailOps (c : Cfg) (d : CmdDesc) : List Op :=
  (match d.commit with
    | some (f, v) => [Op.commit f v]
    | none => []) ++
  (match d.post with
    | .noPoll => []
    | .pollBusy k => [Op.poll (busyWait c k)]
    | .pollWel => [Op.poll (welWait c)])

/-- `Sub(p, operands)` (48_composite.md R290): steps 3 to 5 of `Run` (41_sequencer_poller.md R151). -/
def subOps (c : Cfg) (p : Sampled) (d : CmdDesc) (addr addr2 : Word) (len : Nat) : List Op :=
  bracketOps c p d addr addr2 len ++ tailOps c d

/-- `StatusRead1` (41_sequencer_poller.md R169). -/
def statusReadOps (c : Cfg) (p : Sampled) : List Op := bracketOps c p statusReadDesc 0 0 0

/-- The body of WRITE's loop for a chunk of `size` bytes at `off` (48_composite.md R292 step 4). -/
def chunkOps (c : Cfg) (p : Sampled) (off : Word) (size : Nat) : List Op :=
  subOps c p writeEnableDesc 0 0 0 ++ subOps c p (pageProgramDesc c) off 0 size

/-! ## The position -/

/-- The position an item belongs to (10_state.md R28). An assisted poll, whose reads XP makes, stands at index 0 (log 15). -/
def opPos (op : Op) : Pos :=
  match op with
  | .select => { st := .sel, i := 0 }
  | .opcode _ _ => { st := .opc, i := 0 }
  | .phase pos _ _ => pos
  | .preset pos _ => pos
  | .rx _ i _ => { st := .dat, i := i }
  | .rxi => { st := .dat, i := 0 }
  | .tx _ i _ _ => { st := .dat, i := i }
  | .modeOff pos => pos
  | .deselect => { st := .desel, i := 0 }
  | .abort _ pos => pos
  | .autoPoll _ => { st := .poll, i := 0 }
  | .commit _ _ => { st := .commit, i := 0 }
  | .poll _ => { st := .poll, i := 0 }
  | .pollTest _ => { st := .poll, i := 0 }
  | .qeTest => { st := .check, i := 0 }
  | .loadWrite => { st := .check, i := 0 }
  | .chunk => { st := .check, i := 0 }
  | .advance _ => { st := .check, i := 0 }
  | .finish _ => { st := .idle, i := 0 }

/-- Whether the next item that makes no call is a poll's test: then SEQ is inside a poll read. -/
def inPollRead (ops : List Op) : Bool :=
  match ops with
  | [] => false
  | .pollTest _ :: _ => true
  | .commit _ _ :: _ => false
  | .poll _ :: _ => false
  | .qeTest :: _ => false
  | .loadWrite :: _ => false
  | .chunk :: _ => false
  | .advance _ :: _ => false
  | .finish _ :: _ => false
  | .abort _ _ :: _ => false
  | _ :: rest => inPollRead rest

/-- POS (10_state.md R27, R28): where the head item stands, POLL with N inside a poll read, (IDLE, 0) when nothing is to
do (log 15). -/
def State.pos (s : State) : Pos :=
  match s.todo with
  | [] => { st := .idle, i := 0 }
  | op :: _ => if inPollRead s.todo then { st := .poll, i := s.n.toNat } else opPos op

/-! ## Ends of a command -/

/-- What a command that reads TX leaves in the FIFO. TX belongs to the command (10_state.md R25) and nothing of a command
survives it (R45), so the bytes it did not use go with it (log 10); if HOST pushed more than LEN bytes, what is left is
free (93_implementation_defined.md U12, log 11). -/
def dropTx (s : State) : State :=
  if s.smp.fmt = .fALD then
    if s.txFifo.length ≤ s.smp.len.toNat - s.txUsed then { s with txFifo := [] }
    else { s with txFifo := Config.freeFifo s.freeCount, freeCount := s.freeCount + 1 }
  else s

/-- `finish(res)` (41_sequencer_poller.md R163): the block is idle and accepts the next command (60_exceptions.md
R320). -/
def finish (r : Result) (s : State) : State :=
  dropTx { s with result := r, run := false, done := true, todo := [] }

/-- `raise E` (60_exceptions.md R318), the one way an error is taken: with a bracket open the abort path first calls
`select_high`; otherwise the command is finished with the error. -/
def raiseError (e : Result) (bracketOpen : Bool) (pos : Pos) (s : State) : State :=
  if bracketOpen then { s with todo := [.abort e pos] } else finish e s

/-- XferFail at the phase of the head item `op` (41_sequencer_poller.md R164): the bracket is open. The error is that of the
kind of phase; POS stays where SEQ is, which inside a poll read is POLL (R166, log 15). -/
def xferFail (op : Op) (s : State) : State := raiseError (failKind (opPos op).st) true s.pos s

/-! ## Steps without a call -/

/-- The head of the poll loop (41_sequencer_poller.md R168): out of budget, or one more poll read. -/
def pollLoop (p : PollSpec) (ops : List Op) (s : State) : State :=
  if s.n.toNat = s.cfg.budget p.cls then raiseError p.err false { st := .poll, i := s.n.toNat } s
  else { s with todo := statusReadOps s.cfg s.smp ++ .pollTest p :: ops }

/-- Advance WRITE's working registers past a chunk (48_composite.md R292). -/
def advanceChunk (size : Nat) (s : State) : State :=
  { s with off := s.off + BitVec.ofNat 32 size, srci := s.srci + BitVec.ofNat 32 size, rem := s.rem - BitVec.ofNat 32 size }

/-- Take the steps at the head of `ops` that make no call, and leave what is still to do in `todo`. -/
def settle (ops : List Op) (s : State) : State :=
  match ops with
  | [] => { s with todo := [] }
  | .commit f v :: rest => settle rest (setFlag f v s)
  | .poll p :: rest =>
    match s.cfg.pollImpl with
    | .reads => pollLoop p rest { s with n := 0 }
    | .assisted => { s with todo := .autoPoll p :: rest }
  | .pollTest p :: rest =>
    let s1 := { s with lastSr := s.sr, n := s.n + 1 }
    if statusMatches p s.sr then settle rest s1 else pollLoop p rest s1
  | .qeTest :: rest =>
    if quadEnabled s.cfg s.sr then settle rest s else raiseError .transportCommandFailed false { st := .check, i := 0 } s
  | .loadWrite :: rest => settle rest { s with off := s.smp.addr, rem := s.smp.len, srci := 0 }
  | .chunk :: rest =>
    if s.rem = 0 then settle rest s
    else
      let size := chunkSize s.cfg.pageSize s.off.toNat s.rem.toNat
      { s with todo := chunkOps s.cfg s.smp s.off size ++ [.advance size, .chunk] ++ rest }
  | .advance size :: rest => settle rest (advanceChunk size s)
  | .finish r :: _ => finish r s
  | .rx m i count :: rest => if i < count then { s with todo := .rx m i count :: rest } else settle rest s
  | .tx m i count src :: rest => if i < count then { s with todo := .tx m i count src :: rest } else settle rest s
  | .preset pos modes :: rest => if modes.isEmpty then settle rest s else { s with todo := .preset pos modes :: rest }
  | .modeOff pos :: rest => if s.tm = narrowMode then settle rest s else { s with todo := .modeOff pos :: rest }
  | op :: rest => { s with todo := op :: rest }

/-! ## Calls and answers -/

/-- The byte a transmitted data phase sends (41_sequencer_poller.md R159); `none` while HOST has not pushed it
(10_state.md R25). -/
def txByte (s : State) (src : TxSrc) : Option Byte :=
  match src with
  | .fifo => s.txFifo.head?
  | .arg => some s.smp.arg

/-- The phase an item performs, and the byte it sends (40_phase_encoder.md R133, R140). -/
def opPhase (s : State) (op : Op) : Option (PD × Byte) :=
  match op with
  | .opcode o off => some (pdOpc s.smp.qpi off, s.cfg.opcode s.smp.a4b o)
  | .phase _ pd tx => some (pd, tx)
  | .rx m i count => some (pdRx m s.smp.qpi (i + 1 == count), s.cfg.dummyByte)
  | .rxi => some (pdRxi s.smp.qpi, s.cfg.dummyByte)
  | .tx m i count src => (txByte s src).map fun b => (pdTx m s.smp.qpi (i + 1 == count), b)
  | _ => none

/-- `EnsureMode` before a transfer (40_phase_encoder.md R127): `configure` only when the wanted mode is not latched. -/
def ensuring (s : State) (want : Mode) (transfer : Call) : Call :=
  if s.tm = want then transfer else .configure want

/-- The transport call an item makes next; `none` when it makes none or must wait for HOST. -/
def opCall (s : State) (op : Op) : Option Call :=
  match op with
  | .select => some .selectLow
  | .deselect => some .selectHigh
  | .abort _ _ => some .selectHigh
  | .modeOff _ => some (.configure narrowMode)
  | .autoPoll p =>
    some (.autoPoll (s.cfg.opcode s.smp.a4b .rdsr1) (eff .l1 s.smp.qpi) p.mask p.target (s.cfg.budget p.cls))
  | .preset _ (m :: _) => some (ensuring s m.norm (.transfer s.cfg.dummyByte true))
  | op => (opPhase s op).map fun (pd, tx) => ensuring s pd.want (.transfer tx pd.actions.wait)

/-- The call SEQ is making, if it can make one. -/
def pendingCall (s : State) : Option Call :=
  match s.todo with
  | [] => none
  | op :: _ => opCall s op

/-- `RXpush(b)` (40_phase_encoder.md R134). -/
def rxPush (b : Byte) (s : State) : State :=
  { s with rx := s.rx ++ [b], cksum := BitVec.ofNat 32 ((s.cksum.toNat + b.toNat) % 2 ^ s.cfg.cksumBits) }

/-- The effects of an accepted transfer: CAPTURE (R134), the byte an internal read keeps (41_sequencer_poller.md R158),
the TX byte handed over (R159). -/
def accept (op : Op) (acts : Actions) (a : XferAns) (s : State) : State :=
  match op, a with
  | .rxi, .done b => { s with sr := b }
  | .tx _ _ _ .fifo, .done _ => { s with txFifo := s.txFifo.tail, txUsed := s.txUsed + 1 }
  | _, .done b => if acts.capture then rxPush b s else s
  | _, _ => s

/-- What an accepted transfer leaves of its item: the next index of a data loop (41_sequencer_poller.md R158, R159), or
nothing. -/
def afterAccept (op : Op) : List Op :=
  match op with
  | .rx m i count => [.rx m (i + 1) count]
  | .tx m i count src => [.tx m (i + 1) count src]
  | _ => []

/-- XP's answer to the transfer of a phase (40_phase_encoder.md R130): done, with MODE_OFF if the phase carries it
(R137); the retry of a queued byte (R136), the item unchanged; or XferFail. -/
def answerTransfer (op : Op) (rest : List Op) (a : XferAns) (s : State) : State :=
  match op with
  | .preset pos (_ :: ms) =>
    match a with
    | .done _ => settle (.preset pos ms :: rest) s
    | _ => xferFail op s
  | _ =>
    match opPhase s op with
    | none => s
    | some (pd, _) =>
      match phaseRet pd.actions a with
      | none => xferFail op s
      | some (.success false) => s
      | some _ =>
        settle ((if pd.actions.modeOff then [.modeOff (opPos op)] else []) ++ afterAccept op ++ rest)
          (accept op pd.actions a s)

/-- The answer `a` holds for a call of this kind. -/
def replyTo (c : Call) (a : Answer) : Reply :=
  match c with
  | .selectLow => .call a.call
  | .selectHigh => .call a.call
  | .configure _ => .call a.call
  | .transfer _ _ => .xfer a.xfer
  | .autoPoll _ _ _ _ _ => .poll a.poll

/-- What the answer to call `c`, made by the head item `op`, does to the block. -/
def answerHead (op : Op) (rest : List Op) (c : Call) (a : Answer) (s : State) : State :=
  match c with
  | .selectLow =>
    match a.call with
    | .ok => settle rest s
    | .error => raiseError .transportCommandFailed false (opPos op) s
  | .selectHigh =>
    match op with
    | .abort e _ => finish e s
    | _ =>
      match a.call with
      | .ok => settle rest s
      | .error => raiseError .transportCommandFailed false (opPos op) s
  | .configure m =>
    match a.call with
    | .ok => settle (op :: rest) { s with tm := m }
    | .error => xferFail op s
  | .transfer _ _ => answerTransfer op rest a.xfer s
  | .autoPoll _ _ _ _ _ =>
    match op with
    | .autoPoll p =>
      match a.poll with
      | .matched sr => settle rest { s with lastSr := sr }
      | .timedOut sr => raiseError p.err false (opPos op) { s with lastSr := sr }
      | .error => raiseError .transportCommandFailed false (opPos op) s
    | _ => s

/-- XP answers the call SEQ is making: the call enters the trace (00_scope.md R14) and SEQ acts on the answer. -/
def answerCall (c : Call) (a : Answer) (s : State) : State :=
  let s1 := { s with trace := s.trace ++ [{ call := c, reply := replyTo c a }] }
  match s.todo with
  | [] => s1
  | op :: rest => answerHead op rest c a s1

/-- Run SEQ against the answers XP has given, until the command ends, HOST must supply a byte, or the answers run out;
the answers not used stay in `xp` (log 6). -/
def drive (as : List Answer) (s : State) : State :=
  match as with
  | [] => { s with xp := [] }
  | a :: rest =>
    match pendingCall s with
    | none => { s with xp := a :: rest }
    | some c => drive rest (answerCall c a s)

/-! ## Issuing a command -/

/-- Issue and step 1: CMD, RUN, DONE (10_state.md R26); sample and clear (41_sequencer_poller.md R153). -/
def sampleAndClear (i : Instr) (s : State) : State :=
  { s with
    cmd := encode i, run := true, done := false
    smp := { addr := s.addr, addr2 := s.addr2, len := s.len, arg := s.arg, a4b := s.a4b, qpi := s.qpiEn, dtr := s.dtrEn
             fmt := i.format }
    cksum := 0, rx := [], rxRead := 0, txUsed := 0 }

/-- Sample, check, then take the steps `ops` gives for the sampled operands (41_sequencer_poller.md R151, R152). A command
issued while one is running is ignored (10_state.md R26, 93_implementation_defined.md U1; log 9). -/
def runCommand (i : Instr) (checks : List Check) (ops : Cfg → Sampled → List Op) (s : State) :
    Host.Outcome State Fault Refusal :=
  if s.run then .next s
  else
    let s1 := sampleAndClear i s
    if checksHold checks s1.cfg s1.smp then .next (drive s1.xp (settle (ops s1.cfg s1.smp) s1))
    else .next (finish .invalidArgument s1)

/-- `Run(c)` for a primitive command with descriptor `d` (41_sequencer_poller.md R151). -/
def runPrimitive (i : Instr) (d : CmdDesc) (s : State) : Host.Outcome State Fault Refusal :=
  runCommand i d.checks (fun c p => subOps c p d p.addr p.addr2 p.len.toNat ++ [.finish .ok]) s

/-- An undefined command code (30_encoding.md R101): InvalidArgument at once, CKSUM 0, RX empty, no flag changed. -/
def rejectCode (code : Byte) (s : State) : State :=
  { s with cmd := code, result := .invalidArgument, run := false, done := true, todo := [], cksum := 0, rx := [],
             rxRead := 0 }

/-- SEQ has a call to make and XP has answered it. -/
def State.canMove (s : State) : Bool := (pendingCall s).isSome && !s.xp.isEmpty

end Sys2Proof.Machine
end

