-- ==== Sys2Proof/Machine/ChecksumBuffer.lean ====
section
/-! DEFINITION. Checksum-range and page-buffer commands (47_checksum_pagebuffer.md R270 to R279). -/

namespace Sys2Proof.Machine

/-- CHECKSUM_CALC (R271): both addresses, then the Busy/Ready wait. -/
def execChecksumCalc (s : State) : Host.Outcome State Fault Refusal := runPrimitive .checksumCalc checksumCalcDesc s

/-- CHECKSUM_READ (R272): the bytes go to RX as received; no integer is formed (20_memory.md R69). -/
def execChecksumRead (s : State) : Host.Outcome State Fault Refusal := runPrimitive .checksumRead (checksumReadDesc s.cfg) s

/-- PB_CLEAR (R275). -/
def execPbClear (s : State) : Host.Outcome State Fault Refusal := runPrimitive .pbClear pbClearDesc s

/-- PB_WRITE (R276). -/
def execPbWrite (s : State) : Host.Outcome State Fault Refusal := runPrimitive .pbWrite pbWriteDesc s

/-- PB_READ (R277). -/
def execPbRead (s : State) : Host.Outcome State Fault Refusal := runPrimitive .pbRead pbReadDesc s

/-- PB_PROGRAM (R278). -/
def execPbProgram (s : State) : Host.Outcome State Fault Refusal := runPrimitive .pbProgram pbProgramDesc s

/-- PB_LOAD (R279): no wait. -/
def execPbLoad (s : State) : Host.Outcome State Fault Refusal := runPrimitive .pbLoad pbLoadDesc s

end Sys2Proof.Machine
end

