-- ==== Sys2Proof/Machine/Composite.lean ====
section
/-! DEFINITION. Composite commands (48_composite.md R290 to R298): sampled once, then sub-commands in order. -/

namespace Sys2Proof.Machine

/-- `READ_VARIANT(qpi, dtr)` (R291). -/
def readVariantOf (c : Cfg) (p : Sampled) : ReadCmd :=
  match p.qpi, p.dtr with
  | false, false => c.readVariant[0]
  | false, true => c.readVariant[1]
  | true, false => c.readVariant[2]
  | true, true => c.readVariant[3]

/-- READ (R291): the one read command the flags choose. -/
def execRead (s : State) : Host.Outcome State Fault Refusal :=
  runCommand .read [.lenPositive, .addrFits]
    (fun c p => subOps c p (readDesc (readVariantOf c p)) p.addr 0 p.len.toNat ++ [.finish .ok]) s

/-- WRITE (R292): the Page-Spanning Write Engine. -/
def execWrite (s : State) : Host.Outcome State Fault Refusal :=
  runCommand .write [.lenPositive, .rangeFits] (fun _ _ => [.loadWrite, .chunk, .finish .ok]) s

/-- The erase command a granularity names (R295, 30_encoding.md R98). -/
def eraseDescOf (arg : Byte) : CmdDesc :=
  if arg = 0 then sectorEraseDesc
  else if arg = 1 then block32EraseDesc
  else if arg = 2 then block64EraseDesc
  else chipEraseDesc

/-- ERASE (R295): write-enable, then the erase ARG names; ADDR is ignored for the whole chip. -/
def execErase (s : State) : Host.Outcome State Fault Refusal :=
  runCommand .erase [.argAtMost 3, .addrFitsUnlessArg 3]
    (fun c p => subOps c p writeEnableDesc 0 0 0 ++ subOps c p (eraseDescOf p.arg) p.addr 0 0 ++ [.finish .ok]) s

/-- GET_ID (R296): READ_JEDEC_ID. -/
def execGetId (s : State) : Host.Outcome State Fault Refusal :=
  runCommand .getId [] (fun c p => subOps c p (readJedecIdDesc c) 0 0 0 ++ [.finish .ok]) s

/-- GET_STATUS (R297): READ_SR1. -/
def execGetStatus (s : State) : Host.Outcome State Fault Refusal :=
  runCommand .getStatus [] (fun c p => subOps c p readSr1Desc 0 0 0 ++ [.finish .ok]) s

end Sys2Proof.Machine
end

