-- ==== Sys2Proof/Machine/IdSecurity.lean ====
section
/-! DEFINITION. Identification and security-register commands (45_id_security.md R235 to R242). -/

namespace Sys2Proof.Machine

/-- READ_JEDEC_ID (R236). -/
def execReadJedecId (s : State) : Host.Outcome State Fault Refusal := runPrimitive .readJedecId (readJedecIdDesc s.cfg) s

/-- READ_MFR_ID (R237): three zero address bytes whatever A4B is. -/
def execReadMfrId (s : State) : Host.Outcome State Fault Refusal := runPrimitive .readMfrId (readMfrIdDesc s.cfg) s

/-- READ_UNIQUE_ID (R238). -/
def execReadUniqueId (s : State) : Host.Outcome State Fault Refusal := runPrimitive .readUniqueId (readUniqueIdDesc s.cfg) s

/-- SEC_READ (R240). -/
def execSecRead (s : State) : Host.Outcome State Fault Refusal := runPrimitive .secRead (secReadDesc s.cfg) s

/-- SEC_PROGRAM (R241). -/
def execSecProgram (s : State) : Host.Outcome State Fault Refusal := runPrimitive .secProgram (secProgramDesc s.cfg) s

/-- SEC_ERASE (R242). -/
def execSecErase (s : State) : Host.Outcome State Fault Refusal := runPrimitive .secErase secEraseDesc s

end Sys2Proof.Machine
end

