-- ==== Sys2Proof/Machine/ModeReset.lean ====
section
/-! DEFINITION. Mode-switching commands and software reset (46_mode_reset.md R250 to R258). -/

namespace Sys2Proof.Machine

/-- ENTER_4B (R251): the bracket, then A4B <- 1. -/
def execEnter4b (s : State) : Host.Outcome State Fault Refusal := runPrimitive .enter4b enter4bDesc s

/-- EXIT_4B (R252): the bracket, then A4B <- 0. -/
def execExit4b (s : State) : Host.Outcome State Fault Refusal := runPrimitive .exit4b exit4bDesc s

/-- ENTER_QPI (R253): read status register 2 without capturing it, test QE, then the switch bracket and QPI_EN <- 1. -/
def execEnterQpi (s : State) : Host.Outcome State Fault Refusal :=
  runCommand .enterQpi []
    (fun c p => bracketOps c p statusRead2Desc 0 0 0 ++ [.qeTest] ++ subOps c p enterQpiDesc 0 0 0 ++ [.finish .ok]) s

/-- EXIT_QPI (R254): with QPI_EN = 1 its opcode phase carries MODE_OFF; then QPI_EN <- 0. -/
def execExitQpi (s : State) : Host.Outcome State Fault Refusal := runPrimitive .exitQpi exitQpiDesc s

/-- DTR_ENABLE (R255): no transport call; DTR_EN <- 1. -/
def execDtrEnable (s : State) : Host.Outcome State Fault Refusal :=
  runCommand .dtrEnable [] (fun _ _ => [.commit .dtrEn true, .finish .ok]) s

/-- DTR_DISABLE (R256): no transport call; DTR_EN <- 0. -/
def execDtrDisable (s : State) : Host.Outcome State Fault Refusal :=
  runCommand .dtrDisable [] (fun _ _ => [.commit .dtrEn false, .finish .ok]) s

/-- SOFT_RESET (R257): two opcode brackets; no flag changes and no wait follows. -/
def execSoftReset (s : State) : Host.Outcome State Fault Refusal :=
  runCommand .softReset []
    (fun c p => subOps c p resetEnableDesc 0 0 0 ++ subOps c p resetDesc 0 0 0 ++ [.finish .ok]) s

end Sys2Proof.Machine
end

