-- ==== Sys2Proof/Machine/ProgramErase.lean ====
section
/-! DEFINITION. Program and erase commands (44_program_erase.md R220 to R225). -/

namespace Sys2Proof.Machine

/-- PAGE_PROGRAM (R221): no check for a page crossing. -/
def execPageProgram (s : State) : Host.Outcome State Fault Refusal := runPrimitive .pageProgram (pageProgramDesc s.cfg) s

/-- SECTOR_ERASE (R222): ADDR is sent unchanged. -/
def execSectorErase (s : State) : Host.Outcome State Fault Refusal := runPrimitive .sectorErase sectorEraseDesc s

/-- BLOCK32_ERASE (R223). -/
def execBlock32Erase (s : State) : Host.Outcome State Fault Refusal := runPrimitive .block32Erase block32EraseDesc s

/-- BLOCK64_ERASE (R224). -/
def execBlock64Erase (s : State) : Host.Outcome State Fault Refusal := runPrimitive .block64Erase block64EraseDesc s

/-- CHIP_ERASE (R225): ADDR is not read. -/
def execChipErase (s : State) : Host.Outcome State Fault Refusal := runPrimitive .chipErase chipEraseDesc s

end Sys2Proof.Machine
end

