-- ==== Sys2Proof/Machine/Read.lean ====
section
/-! DEFINITION. Read commands (43_read.md R200 to R210): one descriptor form, nine opcodes and shapes. -/

namespace Sys2Proof.Machine

/-- READ_DATA (R201). -/
def execReadData (s : State) : Host.Outcome State Fault Refusal := runPrimitive .readData (readDesc .readData) s

/-- FAST_READ (R202). -/
def execFastRead (s : State) : Host.Outcome State Fault Refusal := runPrimitive .fastRead (readDesc .fastRead) s

/-- READ_DUAL_OUT (R203). -/
def execReadDualOut (s : State) : Host.Outcome State Fault Refusal := runPrimitive .readDualOut (readDesc .readDualOut) s

/-- READ_DUAL_IO (R204). -/
def execReadDualIo (s : State) : Host.Outcome State Fault Refusal := runPrimitive .readDualIo (readDesc .readDualIo) s

/-- READ_QUAD_OUT (R205). -/
def execReadQuadOut (s : State) : Host.Outcome State Fault Refusal := runPrimitive .readQuadOut (readDesc .readQuadOut) s

/-- READ_QUAD_IO (R206). -/
def execReadQuadIo (s : State) : Host.Outcome State Fault Refusal := runPrimitive .readQuadIo (readDesc .readQuadIo) s

/-- READ_DTR (R207). -/
def execReadDtr (s : State) : Host.Outcome State Fault Refusal := runPrimitive .readDtr (readDesc .readDtr) s

/-- READ_DUAL_IO_DTR (R208). -/
def execReadDualIoDtr (s : State) : Host.Outcome State Fault Refusal := runPrimitive .readDualIoDtr (readDesc .readDualIoDtr) s

/-- READ_QUAD_IO_DTR (R209). -/
def execReadQuadIoDtr (s : State) : Host.Outcome State Fault Refusal := runPrimitive .readQuadIoDtr (readDesc .readQuadIoDtr) s

end Sys2Proof.Machine
end

