-- ==== Sys2Proof/Machine/Status.lean ====
section
/-! DEFINITION. Status and control commands (42_status.md). -/

namespace Sys2Proof.Machine

/-- WRITE_ENABLE (R181): one opcode bracket, then the write-enable wait. -/
def execWriteEnable (s : State) : Host.Outcome State Fault Refusal := runPrimitive .writeEnable writeEnableDesc s

/-- WRITE_DISABLE (R182): one opcode bracket, no wait. -/
def execWriteDisable (s : State) : Host.Outcome State Fault Refusal := runPrimitive .writeDisable writeDisableDesc s

/-- READ_SR1 (R183): one byte to RX and CKSUM; LASTSR is not written. -/
def execReadSr1 (s : State) : Host.Outcome State Fault Refusal := runPrimitive .readSr1 readSr1Desc s

/-- READ_SR2 (R184). -/
def execReadSr2 (s : State) : Host.Outcome State Fault Refusal := runPrimitive .readSr2 readSr2Desc s

/-- READ_SR3 (R185). -/
def execReadSr3 (s : State) : Host.Outcome State Fault Refusal := runPrimitive .readSr3 readSr3Desc s

/-- WRITE_SR1 (R186): one data phase carrying ARG, then the Busy/Ready wait. -/
def execWriteSr1 (s : State) : Host.Outcome State Fault Refusal := runPrimitive .writeSr1 writeSr1Desc s

/-- WRITE_SR2 (R187). -/
def execWriteSr2 (s : State) : Host.Outcome State Fault Refusal := runPrimitive .writeSr2 writeSr2Desc s

/-- WRITE_SR3 (R188). -/
def execWriteSr3 (s : State) : Host.Outcome State Fault Refusal := runPrimitive .writeSr3 writeSr3Desc s

/-- WAIT_READY (R189): the Busy/Ready wait alone, with the budget of the class ARG names; always for BUSY = 0. -/
def execWaitReady (s : State) : Host.Outcome State Fault Refusal :=
  runCommand .waitReady [.argAtMost 7]
    (fun c p =>
      match budgetClassOf p.arg with
      | some k => [.poll (busyWait c k), .finish .ok]
      | none => [.finish .invalidArgument])
    s

end Sys2Proof.Machine
end

