-- ==== Sys2Proof/Machine/Dispatch.lean ====
section
/-! DEFINITION. The dispatch of a command to its meaning: one arm per constructor. -/

namespace Sys2Proof.Machine

def exec (i : Instr) (s : State) : Host.Outcome State Fault Refusal :=
  match i with
  | .writeEnable => Sys2Proof.Machine.execWriteEnable s
  | .writeDisable => Sys2Proof.Machine.execWriteDisable s
  | .readSr1 => Sys2Proof.Machine.execReadSr1 s
  | .readSr2 => Sys2Proof.Machine.execReadSr2 s
  | .readSr3 => Sys2Proof.Machine.execReadSr3 s
  | .writeSr1 => Sys2Proof.Machine.execWriteSr1 s
  | .writeSr2 => Sys2Proof.Machine.execWriteSr2 s
  | .writeSr3 => Sys2Proof.Machine.execWriteSr3 s
  | .waitReady => Sys2Proof.Machine.execWaitReady s
  | .readData => Sys2Proof.Machine.execReadData s
  | .fastRead => Sys2Proof.Machine.execFastRead s
  | .readDualOut => Sys2Proof.Machine.execReadDualOut s
  | .readDualIo => Sys2Proof.Machine.execReadDualIo s
  | .readQuadOut => Sys2Proof.Machine.execReadQuadOut s
  | .readQuadIo => Sys2Proof.Machine.execReadQuadIo s
  | .readDtr => Sys2Proof.Machine.execReadDtr s
  | .readDualIoDtr => Sys2Proof.Machine.execReadDualIoDtr s
  | .readQuadIoDtr => Sys2Proof.Machine.execReadQuadIoDtr s
  | .pageProgram => Sys2Proof.Machine.execPageProgram s
  | .sectorErase => Sys2Proof.Machine.execSectorErase s
  | .block32Erase => Sys2Proof.Machine.execBlock32Erase s
  | .block64Erase => Sys2Proof.Machine.execBlock64Erase s
  | .chipErase => Sys2Proof.Machine.execChipErase s
  | .readJedecId => Sys2Proof.Machine.execReadJedecId s
  | .readMfrId => Sys2Proof.Machine.execReadMfrId s
  | .readUniqueId => Sys2Proof.Machine.execReadUniqueId s
  | .secRead => Sys2Proof.Machine.execSecRead s
  | .secProgram => Sys2Proof.Machine.execSecProgram s
  | .secErase => Sys2Proof.Machine.execSecErase s
  | .enter4b => Sys2Proof.Machine.execEnter4b s
  | .exit4b => Sys2Proof.Machine.execExit4b s
  | .enterQpi => Sys2Proof.Machine.execEnterQpi s
  | .exitQpi => Sys2Proof.Machine.execExitQpi s
  | .dtrEnable => Sys2Proof.Machine.execDtrEnable s
  | .dtrDisable => Sys2Proof.Machine.execDtrDisable s
  | .softReset => Sys2Proof.Machine.execSoftReset s
  | .checksumCalc => Sys2Proof.Machine.execChecksumCalc s
  | .checksumRead => Sys2Proof.Machine.execChecksumRead s
  | .pbClear => Sys2Proof.Machine.execPbClear s
  | .pbWrite => Sys2Proof.Machine.execPbWrite s
  | .pbRead => Sys2Proof.Machine.execPbRead s
  | .pbProgram => Sys2Proof.Machine.execPbProgram s
  | .pbLoad => Sys2Proof.Machine.execPbLoad s
  | .read => Sys2Proof.Machine.execRead s
  | .write => Sys2Proof.Machine.execWrite s
  | .erase => Sys2Proof.Machine.execErase s
  | .getId => Sys2Proof.Machine.execGetId s
  | .getStatus => Sys2Proof.Machine.execGetStatus s

end Sys2Proof.Machine
end

