-- ==== Sys2Proof/Machine/Port.lean ====
section
/-! DEFINITION. The register image of the command port (10_state.md R37 to R40) and the acts of the agents outside the
block (00_scope.md R15). Every register is accessed as one aligned word of its width, so an access names an offset and
a value is cut to the register's width (logs 19 and 38). -/

namespace Sys2Proof.Machine

/-- A write to CMD: the one way a command is issued (10_state.md R26). While RUN = 1 it is ignored
(93_implementation_defined.md U1); a code not in the table is refused with InvalidArgument (30_encoding.md R101). -/
def writeCmd (code : Byte) (s : State) : Host.Outcome State Fault Refusal :=
  if s.run then .next s
  else
    match decode [code] with
    | .ok (i, _) => exec i s
    | .error _ => .next (rejectCode code s)

/-- HOST writes a register of the image (10_state.md R37): a read-only register and an offset not listed ignore it. -/
def regWrite (offset : Nat) (v : Word) (s : State) : Host.Outcome State Fault Refusal :=
  match offset with
  | 0x00 => writeCmd (v.setWidth 8) s
  | 0x04 => .next { s with addr := s.cfg.operand v }
  | 0x08 => .next { s with len := s.cfg.operand v }
  | 0x0C => .next { s with arg := v.setWidth 8 }
  | 0x10 => .next { s with addr2 := s.cfg.operand v }
  | 0x28 => .next { s with txFifo := s.txFifo ++ [v.setWidth 8] }
  | _ => .next s

/-- What HOST reads at an offset of the image (10_state.md R37); an offset not listed reads 0. RXDATA with nothing unread
(93_implementation_defined.md U2), and the write-only TXDATA, read as a free byte (logs 13 and 18). -/
def regValue (offset : Nat) (s : State) : Word :=
  match offset with
  | 0x00 => s.cmd.setWidth 32
  | 0x04 => s.addr
  | 0x08 => s.len
  | 0x0C => s.arg.setWidth 32
  | 0x10 => s.addr2
  | 0x14 => s.statusReg.setWidth 32
  | 0x18 => s.flagsReg.setWidth 32
  | 0x1C => s.tmodeReg.setWidth 32
  | 0x20 => s.cksum
  | 0x24 => s.lastSr.setWidth 32
  | 0x28 => (Config.freeByte s.freeCount).setWidth 32
  | 0x2C => ((s.rx[s.rxRead]?).getD (Config.freeByte s.freeCount)).setWidth 32
  | 0x30 => s.rxCount
  | _ => 0

/-- What a read does besides answering: RXDATA pops the oldest unread byte; a free byte is used up. -/
def regReadEffect (offset : Nat) (s : State) : State :=
  match offset with
  | 0x28 => { s with freeCount := s.freeCount + 1 }
  | 0x2C => if s.rxRead < s.rx.length then { s with rxRead := s.rxRead + 1 } else { s with freeCount := s.freeCount + 1 }
  | _ => s

/-- HOST reads a register; the value it gets enters `busOut`. -/
def regRead (offset : Nat) (s : State) : State :=
  let s1 := regReadEffect offset s
  { s1 with busOut := s.busOut ++ [regValue offset s] }

/-- Reset (70_reset_and_hazards.md R350, R353): every piece of the block's state to its reset value, no transport call; the
TXDATA FIFO is emptied (log 35); the parameters, the queues and logs of the agents outside stay (log 14). -/
def applyReset (s : State) : State :=
  { State.reset with
    cfg := s.cfg, env := s.env, xp := s.xp, trace := s.trace, busOut := s.busOut, freeCount := s.freeCount }

/-- One act of HOST or XP. -/
def envStep (act : EnvAct) (s : State) : Host.Outcome State Fault Refusal :=
  match act with
  | .write offset v => regWrite offset v s
  | .read offset => .next (regRead offset s)
  | .answers as => .next { s with xp := s.xp ++ as }
  | .reset => .next (applyReset s)

end Sys2Proof.Machine
end

