-- ==== Sys2Proof/Machine/Step.lean ====
section
/-! DEFINITION. One step of the machine. SEQ moves when it has a call to make and XP has answered it; otherwise the next
act of HOST or XP is taken; when there is none, nothing can move (60_exceptions.md R326) and the state stays as it is
(logs 7, 8 and 33). -/

namespace Sys2Proof.Machine

/-- One step. A command is fetched by HOST's write of its code to CMD (10_state.md R26, R27). -/
def step (s : State) : Host.Outcome State Fault Refusal :=
  if s.canMove then .next (drive s.xp s)
  else
    match s.env with
    | [] => .next s
    | act :: rest => envStep act { s with env := rest }

/-- `s` with HOST about to write the command word to CMD, offset 0x00 (10_state.md R37): what the next step does when SEQ
is idle. The block fetches nothing from memory (R27, log 23). -/
def State.withFetchWord (s : State) (_nbits w : Nat) : State :=
  { s with env := .write 0x00 (BitVec.ofNat 32 w) :: s.env }

end Sys2Proof.Machine
end

