-- ==== Sys2Proof/Machine/Dev.lean ====
section
/-! DEFINITION. The reference flash device `DEV` of 20_memory.md R80 to R86: an answerer of SEQ's calls, given by the spec
for its test vectors and binding no model of the block (R80). It is no part of `State`. What R81 to R86 leave open is
listed in log 22. -/

namespace Sys2Proof.Machine

/-! ## Byte memory: listed cells, the rest erased (R81: "Erased bytes are 0xFF") -/

/-- What an address that no cell lists reads as. -/
def erasedByte : Byte := 0xFF#8

/-- Read one byte. -/
def memRead (m : List Host.Cell) (a : Nat) : Byte := (m.lookup a).getD erasedByte

/-- Write one byte, keeping the cells in rising order and listing no erased byte. -/
def memWrite (m : List Host.Cell) (a : Nat) (b : Byte) : List Host.Cell :=
  match m with
  | [] => if b = erasedByte then [] else [(a, b)]
  | (k, v) :: rest =>
    if a < k then (if b = erasedByte then (k, v) :: rest else (a, b) :: (k, v) :: rest)
    else if a = k then (if b = erasedByte then rest else (a, b) :: rest)
    else (k, v) :: memWrite rest a b

/-- Erase the bytes from `base` to `base + n - 1`. -/
def memErase (m : List Host.Cell) (base n : Nat) : List Host.Cell :=
  m.filter fun c => c.1 < base || base + n ≤ c.1

/-- The canonical form: addresses strictly rising, no cell erased. -/
def memWf (m : List Host.Cell) : Bool :=
  match m with
  | [] => true
  | (k, v) :: rest => v != erasedByte && rest.all (fun c => k < c.1) && memWf rest

/-- `MemWrite` (R83): AND the bytes in from `addr` on, the address wrapping inside its page of `page` bytes. `i` is how
many bytes went before. -/
def programBytes (m : List Host.Cell) (page addr i : Nat) (v : List Byte) : List Host.Cell :=
  match v with
  | [] => m
  | b :: rest =>
    let a := addr - addr % page + (addr + i) % page
    programBytes (memWrite m a (memRead m a &&& b)) page addr (i + 1) rest

/-! ## The device -/

/-- The state of `DEV` (R81), with the size of its array, the vector's stated values (R83, R84, R86), and the bracket
being received. -/
structure Dev where
  size : Nat
  mem : List Host.Cell
  /-- The security registers `sec[0]` to `sec[SEC_COUNT - 1]` one behind another, `sec[i]` from `i * SEC_SIZE` on, so that
  every one of them is there. -/
  sec : List Host.Cell
  sr1 : Byte
  sr2 : Byte
  sr3 : Byte
  busyReads : Nat
  a4b : Bool
  qpi : Bool
  /-- What `busy_reads` becomes when an operation is accepted. -/
  busyAfter : Nat
  jedec : List Byte
  /-- The bytes received since chip-select fell, oldest first; `none` when it is high. -/
  bracket : Option (List Byte)
  /-- The last bracket was the first of the reset pair. -/
  resetArmed : Bool
  /-- The index of the next free byte. -/
  freeIndex : Nat
  deriving DecidableEq, Repr

/-- The memories of the device are in canonical form. -/
def Dev.wf (d : Dev) : Bool := memWf d.mem && memWf d.sec

/-- The wire instructions `OPC` names (30_encoding.md R103), those with a default byte first. -/
def allOpcs : List Opc := defaultOpcodes.map (·.1) ++ [.chkCalc, .chkRead, .pbClear, .pbWrite, .pbRead, .pbProg, .pbLoad]

/-- The instruction an opcode byte names, in the device's own addressing mode: the first with that byte. -/
def Dev.instruction (d : Dev) (c : Cfg) (b : Byte) : Option Opc := allOpcs.find? fun o => c.opcode d.a4b o == b

/-- Whether an instruction carries an address, of as many bytes as `a4b_dev` says (R86). -/
def Dev.addressed (o : Opc) : Bool :=
  match o with
  | .read | .fastRead | .dualOut | .dualIo | .quadOut | .quadIo | .dtrRead | .dualIoDtr | .quadIoDtr | .pp | .se | .be32
  | .be64 | .secRead | .secProg | .secErase => true
  | _ => false

/-- How many address bytes the device consumes (R86). -/
def Dev.addressCount (d : Dev) (c : Cfg) (o : Opc) : Nat := if Dev.addressed o then addrCount c d.a4b else 0

/-- How many transfers one dummy item makes. -/
def itemTransfers (c : Cfg) (a4b : Bool) (item : DummyItem) : Nat :=
  match item with
  | .bytes n n4 _ _ _ => if a4b then n4 else n
  | .preset k => (c.dummyModes k.dummy).length

/-- How many transfers lie between the opcode and the data. -/
def Dev.skip (d : Dev) (c : Cfg) (o : Opc) : Nat :=
  d.addressCount c o + ((c.shape o).dummy.map fun it => itemTransfers c d.a4b it).sum

/-- The number that address bytes, most significant first, stand for (R67). -/
def bytesToNat (bs : List Byte) : Nat := bs.foldl (fun acc b => 256 * acc + b.toNat) 0

/-- Status register 1 as a read sees it (R85). -/
def Dev.status1 (d : Dev) (c : Cfg) : Byte :=
  if 0 < d.busyReads then d.sr1 ||| c.busyMask else d.sr1 &&& ~~~c.busyMask

/-- The security register a base names. -/
def Dev.secIndex (c : Cfg) (addr : Nat) : Option Nat := c.secBases.findIdx? fun b => b.toNat == addr

/-- Whether the device takes an instruction now: while busy it takes only status reads
(93_implementation_defined.md U10). -/
def Dev.takes (d : Dev) (o : Opc) : Bool := d.busyReads == 0 || o == .rdsr1 || o == .rdsr2 || o == .rdsr3

/-- The byte the device answers to data phase `k` of instruction `o` at `addr`; `none` where R81 to R86 state none. That
SEC_READ gives the bytes of the register its base names from offset 0 on, wrapping at SEC_SIZE, is the model's (log 22). -/
def Dev.dataByte (d : Dev) (c : Cfg) (o : Opc) (addr k : Nat) : Option Byte :=
  match o with
  | .read | .fastRead | .dualOut | .dualIo | .quadOut | .quadIo | .dtrRead | .dualIoDtr | .quadIoDtr =>
    some (memRead d.mem ((addr + k) % d.size))
  | .rdsr1 => some (d.status1 c)
  | .rdsr2 => some d.sr2
  | .rdsr3 => some d.sr3
  | .jedec => d.jedec[k]?
  | .secRead => (Dev.secIndex c addr).map fun i => memRead d.sec (i * c.secSize + k % c.secSize)
  | _ => none

/-- The answer to the transfer that follows the bytes `sent`, and whether it is a data phase of status register 1. -/
def Dev.answerByte (d : Dev) (c : Cfg) (sent : List Byte) : Option Byte × Bool :=
  match sent with
  | [] => (none, false)
  | op :: rest =>
    match d.instruction c op with
    | none => (none, false)
    | some o =>
      if !d.takes o || decide (rest.length < d.skip c o) then (none, false)
      else (d.dataByte c o (bytesToNat (rest.take (d.addressCount c o))) (rest.length - d.skip c o), o == .rdsr1)

/-- A mutating instruction: accepted only with WEL set; WEL then clears and `busy_reads` is set (R83 to R85). -/
def Dev.mutate (d : Dev) (c : Cfg) (effect : Dev → Dev) : Dev :=
  if d.sr1 &&& c.welMask = 0#8 then d
  else { effect d with sr1 := (effect d).sr1 &&& ~~~c.welMask, busyReads := d.busyAfter }

/-- Erase the unit of `n` bytes that holds `addr` (R84). -/
def Dev.eraseUnit (addr n : Nat) (d : Dev) : Dev := { d with mem := memErase d.mem (addr - addr % n) n }

/-- What the bytes of a closed bracket do (R83 to R86). These points are the model's (log 22): a program or an erase acts at
the address as sent, not reduced by the array's size; a chip without a page buffer or a checksum unit (R81 gives neither)
ignores their seven instructions, WEL and `busy_reads` with them; a bracket that ends inside its address does nothing; the
bytes written start after the dummy transfers of the instruction's shape, as those read do; SEC_PROGRAM ANDs its bytes into
the register its base names, from offset 0 on, and SEC_ERASE erases that register whole. -/
def Dev.execute (d : Dev) (c : Cfg) (sent : List Byte) : Dev :=
  match sent with
  | [] => d
  | op :: rest =>
    match d.instruction c op with
    | none => { d with resetArmed := false }
    | some o =>
      let n := d.addressCount c o
      let addr := bytesToNat (rest.take n)
      let v := rest.drop (d.skip c o)
      let d1 := { d with resetArmed := o == .rsten }
      if !d.takes o || decide (rest.length < n) then d1
      else
        match o with
        | .wren => { d1 with sr1 := d.sr1 ||| c.welMask }
        | .wrdi => { d1 with sr1 := d.sr1 &&& ~~~c.welMask }
        | .pp => d1.mutate c fun x => { x with mem := programBytes x.mem c.pageSize addr 0 v }
        | .se => d1.mutate c (Dev.eraseUnit addr c.erase4k)
        | .be32 => d1.mutate c (Dev.eraseUnit addr c.erase32k)
        | .be64 => d1.mutate c (Dev.eraseUnit addr c.erase64k)
        | .ce => d1.mutate c fun x => { x with mem := [] }
        | .secProg =>
          match Dev.secIndex c addr with
          | none => d1
          | some i => d1.mutate c fun x => { x with sec := programBytes x.sec c.secSize (i * c.secSize) 0 v }
        | .secErase =>
          match Dev.secIndex c addr with
          | none => d1
          | some i => d1.mutate c fun x => { x with sec := memErase x.sec (i * c.secSize) c.secSize }
        | .wrsr1 => d1.mutate c fun x => { x with sr1 := v.headD x.sr1 }
        | .wrsr2 => d1.mutate c fun x => { x with sr2 := v.headD x.sr2 }
        | .wrsr3 => d1.mutate c fun x => { x with sr3 := v.headD x.sr3 }
        | .en4b => { d1 with a4b := true }
        | .ex4b => { d1 with a4b := false }
        | .enqpi => { d1 with qpi := true }
        | .exqpi => { d1 with qpi := false }
        | .rst => if d.resetArmed then { d1 with a4b := false, qpi := false } else d1
        | _ => d1

/-- An accepting answer that carries `b`. -/
def acceptWith (b : Byte) : Answer := { call := .ok, xfer := .done b, poll := .error }

/-- The device answers one call of SEQ, accepting every one. `auto_poll` is not a call it knows: it answers `Error`. A
`select_low` while a bracket is open, as after a reset in mid-command (93_implementation_defined.md U6), forgets the bytes
received and opens a new bracket: the model's choice (log 22). -/
def Dev.answer (d : Dev) (c : Cfg) (k : Call) : Answer × Dev :=
  match k with
  | .selectLow => (acceptWith 0x00#8, { d with bracket := some [] })
  | .selectHigh => (acceptWith 0x00#8, { (d.execute c (d.bracket.getD [])) with bracket := none })
  | .configure _ => (acceptWith 0x00#8, d)
  | .transfer tx _ =>
    match d.bracket with
    | none => (acceptWith (Config.freeDevByte d.freeIndex), { d with freeIndex := d.freeIndex + 1 })
    | some sent =>
      let d1 := { d with bracket := some (sent ++ [tx]) }
      match d.answerByte c sent with
      | (some b, isStatus) => (acceptWith b, if isStatus then { d1 with busyReads := d.busyReads - 1 } else d1)
      | (none, _) => (acceptWith (Config.freeDevByte d.freeIndex), { d1 with freeIndex := d.freeIndex + 1 })
  | .autoPoll _ _ _ _ _ => (acceptWith 0x00#8, d)

/-- SEQ and the device together, at most `fuel` calls. -/
def corun (fuel : Nat) (d : Dev) (s : State) : Dev × State :=
  match fuel with
  | 0 => (d, s)
  | fuel + 1 =>
    match pendingCall s with
    | none => (d, s)
    | some k =>
      let (a, d1) := d.answer s.cfg k
      corun fuel d1 (answerCall k a s)

end Sys2Proof.Machine
end

