-- ==== Sys2Proof/Safety.lean ====
section
/-! DEFINITION. The terms statements are made in. First the wire: which transport calls a bracket, a wait or a whole
command makes when XP accepts each, written as straight lists, apart from the sequencer that makes them one at a time.
Then what answers meet a list of calls, and the state a command that met them leaves. Then the invariants. -/

namespace Sys2Proof.Machine

/-! ## The wire -/

/-- What the byte XP answers to a call is for. -/
inductive Role
  /-- Nothing: the answer has only to be an acceptance. -/
  | plain
  /-- Delivered to HOST (40_phase_encoder.md R134). -/
  | captured
  /-- The status byte of a poll read, which has to end the wait (41_sequencer_poller.md R168). -/
  | polled (p : PollSpec)
  /-- The status byte of a poll read that does not end the wait. -/
  | pending (p : PollSpec)
  /-- The status byte an assisted poll returns (41_sequencer_poller.md R173). -/
  | matched
  /-- Status register 2 in ENTER_QPI, which has to show QE (46_mode_reset.md R253). -/
  | quadTest
  /-- Status register 2 in an ENTER_QPI that is refused. -/
  | quadOff
  /-- A transmitted data byte that XP does not accept, so that it is sent again (40_phase_encoder.md R136). -/
  | declined
  deriving DecidableEq, Repr

/-- One item of a bracket as 30_encoding.md R95 orders them: chip-select, a phase (a data phase if `data`), or the assisted
poll. -/
inductive WireItem
  | select
  | deselect
  | phase (pd : PD) (tx : Byte) (role : Role) (data : Bool := false)
  | assist (call : Call)
  deriving DecidableEq, Repr

/-- A transport call with the role of its answer, whether it belongs to a data phase, and whether NotAccepted makes it come
again (40_phase_encoder.md R136). -/
structure WireCall where
  call : Call
  role : Role
  data : Bool := false
  retry : Bool := false
  deriving DecidableEq, Repr

/-- The `configure` a phase that wants `want` needs when `tm` is latched (40_phase_encoder.md R127). -/
def ensureCalls (data : Bool) (tm want : Mode) : List WireCall :=
  if want = tm then [] else [{ call := .configure want, role := .plain, data := data }]

/-- The transfers of a dummy preset (40_phase_encoder.md R132). -/
def presetCalls (b : Byte) (tm : Mode) (modes : List Mode) : List WireCall :=
  match modes with
  | [] => []
  | m :: rest => ensureCalls false tm m.norm ++ { call := .transfer b true, role := .plain } :: presetCalls b m.norm rest

/-- The mode a phase leaves latched, apart from MODE_OFF. -/
def latched (c : Cfg) (tm : Mode) (pd : PD) : Mode :=
  if pd.dummy = .none then pd.want else ((c.dummyModes pd.dummy).getLast?.map Mode.norm).getD tm

/-- The mode latched after an item. -/
def WireItem.after (c : Cfg) (tm : Mode) (w : WireItem) : Mode :=
  match w with
  | .phase pd _ _ _ => if pd.actions.modeOff then narrowMode else latched c tm pd
  | _ => tm

/-- The calls of one item, `tm` being latched before it (40_phase_encoder.md R130). -/
def WireItem.calls (c : Cfg) (tm : Mode) (w : WireItem) : List WireCall :=
  match w with
  | .select => [{ call := .selectLow, role := .plain }]
  | .deselect => [{ call := .selectHigh, role := .plain }]
  | .assist k => [{ call := k, role := .matched }]
  | .phase pd tx role data =>
    (if pd.dummy = .none then
      ensureCalls data tm pd.want ++
        [{ call := .transfer tx pd.actions.wait, role := role, data := data, retry := pd.actions.rsucc }]
     else presetCalls c.dummyByte tm (c.dummyModes pd.dummy)) ++
    (if pd.actions.modeOff then ensureCalls data (latched c tm pd) narrowMode else [])

/-- The calls of a list of items. -/
def wireCalls (c : Cfg) (tm : Mode) (ws : List WireItem) : List WireCall :=
  match ws with
  | [] => []
  | w :: rest => w.calls c tm ++ wireCalls c (w.after c tm) rest

/-- The mode latched after some calls: that of the last `configure` (10_state.md R32). -/
def modeAfter (tm : Mode) (cs : List WireCall) : Mode :=
  cs.foldl (fun m k => match k.call with
    | .configure m' => m'
    | _ => m) tm

/-- One dummy item (41_sequencer_poller.md R157). -/
def dummyWire (c : Cfg) (p : Sampled) (item : DummyItem) : List WireItem :=
  match item with
  | .bytes n n4 l r d =>
    List.replicate (if p.a4b then n4 else n) (.phase (pdDmy l r d p.qpi) c.dummyByte .plain)
  | .preset k => [.phase (pdDpk k) c.dummyByte .plain]

/-- The data phases (41_sequencer_poller.md R158, R159); `tx` are the bytes to send, `keep` the role of a byte the
sequencer keeps. -/
def dataWire (c : Cfg) (p : Sampled) (m : Width) (data : DataKind) (len : Nat) (tx : List Byte) (keep : Role) : List WireItem :=
  match data with
  | .noData => []
  | .rx k => (List.range (k.value len)).map fun i => .phase (pdRx m p.qpi (i + 1 == k.value len)) c.dummyByte .captured true
  | .rxi => [.phase (pdRxi p.qpi) c.dummyByte keep true]
  | .tx _ => tx.zipIdx.map fun (b, i) => .phase (pdTx m p.qpi (i + 1 == tx.length)) b .plain true

/-- The address and dummy phases of a bracket without data phases: the last of them, if it is not (L1, SDR), is followed
by the return to (L1, SDR, TO_CHIP) when QPI_EN = 0 (40_phase_encoder.md R137, 10_state.md R33); so is EXIT_QPI's
(`leaving`, 46_mode_reset.md R254). -/
def endNarrow (qpi leaving : Bool) (ws : List WireItem) : List WireItem :=
  match ws with
  | [] => []
  | [.phase pd tx role data] =>
    if (leaving && qpi) || (!qpi && !(pd.lines == .l1 && pd.rate == .sdr)) then [.phase pd.withModeOff tx role data]
    else [.phase pd tx role data]
  | w :: rest => w :: endNarrow qpi leaving rest

/-- One bracket (30_encoding.md R95): "assert chip-select, emit the opcode phase, emit address phases (3 or 4 bytes per
the Addressing Mode), emit dummy phases as required by the instruction's read latency, emit data phases (read or write
direction), then deassert chip-select". -/
def bracketWire (c : Cfg) (p : Sampled) (d : CmdDesc) (addr addr2 : Word) (tx : List Byte) (keep : Role) : List WireItem :=
  let sh := d.shapeIn c
  let head := (addrPhaseBytes c d.addr p.a4b addr addr2).map (fun b => WireItem.phase (pdAdr sh.addrM p.qpi) b .plain) ++
    sh.dummy.flatMap (dummyWire c p)
  let data := dataWire c p sh.dataM d.data p.len.toNat tx keep
  [WireItem.select, .phase (pdOpc p.qpi (d.opcodeOff && p.qpi)) (c.opcode p.a4b d.opc) .plain] ++
  (if data.isEmpty then endNarrow p.qpi d.opcodeOff head else head) ++ data ++ [WireItem.deselect]

/-- A poll read (41_sequencer_poller.md R169): no dummy, one line, whatever the shape of READ_SR1. -/
def statusWire (c : Cfg) (p : Sampled) (role : Role) : List WireItem :=
  [.select, .phase (pdOpc p.qpi false) (c.opcode p.a4b .rdsr1) .plain, .phase (pdRxi p.qpi) c.dummyByte role true,
   .deselect]

/-- ENTER_QPI's read of status register 2 (46_mode_reset.md R253 step 2), of the same form. -/
def status2Wire (c : Cfg) (p : Sampled) (role : Role) : List WireItem :=
  [.select, .phase (pdOpc p.qpi false) (c.opcode p.a4b .rdsr2) .plain, .phase (pdRxi p.qpi) c.dummyByte role true,
   .deselect]

/-- A wait that its first status read ends (41_sequencer_poller.md R168, R173). -/
def waitWire (c : Cfg) (p : Sampled) (spec : PollSpec) : List WireItem :=
  match c.pollImpl with
  | .reads => statusWire c p (.polled spec)
  | .assisted =>
    [.assist (.autoPoll (c.opcode p.a4b .rdsr1) (eff .l1 p.qpi) spec.mask spec.target (c.budget spec.cls))]

/-- The wait for BUSY = 0 (41_sequencer_poller.md R162). -/
def busySpec (c : Cfg) (k : BudgetClass) : PollSpec :=
  { mask := c.busyMask, target := 0x00#8, cls := k, err := .busyTimeout }

/-- The wait for WEL = 1 (41_sequencer_poller.md R170). -/
def welSpec (c : Cfg) : PollSpec := { mask := c.welMask, target := c.welMask, cls := .wel, err := .writeEnableFailed }

/-- The Busy/Ready wait, ended by its first read. -/
def busyWire (c : Cfg) (p : Sampled) (k : BudgetClass) : List WireItem := waitWire c p (busySpec c k)

/-- The write-enable wait, ended by its first read. -/
def welWire (c : Cfg) (p : Sampled) : List WireItem := waitWire c p (welSpec c)

/-- The write-enable sub-command (48_composite.md R290; 42_status.md R181). -/
def enableWire (c : Cfg) (p : Sampled) : List WireItem := bracketWire c p { opc := .wren } 0 0 [] .plain ++ welWire c p

/-- WRITE's chunks, each its flash address, source index and size (48_composite.md R292, R293). -/
def chunksFrom (page fuel off src rem : Nat) : List (Nat × Nat × Nat) :=
  match fuel with
  | 0 => []
  | fuel + 1 =>
    if rem = 0 then []
    else
      let z := min (page - off % page) rem
      (off, src, z) :: chunksFrom page fuel (off + z) (src + z) (rem - z)

/-- The chunks of a write of `len` bytes at `addr`. -/
def chunks (page addr len : Nat) : List (Nat × Nat × Nat) := chunksFrom page len addr 0 len

/-- What WRITE puts on the wire for one chunk (48_composite.md R292 step 4). -/
def chunkWire (c : Cfg) (p : Sampled) (tx : List Byte) (k : Nat × Nat × Nat) : List WireItem :=
  enableWire c p ++
  bracketWire c p { opc := .pp, addr := .a4bSized, data := .tx .len } (BitVec.ofNat 32 k.1) 0 ((tx.drop k.2.1).take k.2.2)
    .plain ++
  busyWire c p .program

/-! ## Answers that meet a list of calls -/

/-- XP accepts the call, whichever of the four it is. -/
def prompt (a : Answer) : Bool :=
  a.call == .ok && (match a.xfer with
    | .done _ => true
    | _ => false)

/-- The byte an accepting answer carries. -/
def byteOf (a : Answer) : Byte :=
  match a.xfer with
  | .done b => b
  | _ => 0x00#8

/-- Whether an answer is what a call of this role needs for the command to go on. -/
def Role.met (c : Cfg) (r : Role) (a : Answer) : Bool :=
  match r with
  | .plain => prompt a
  | .captured => prompt a
  | .polled p => prompt a && (byteOf a &&& p.mask == p.target)
  | .pending p => prompt a && !(byteOf a &&& p.mask == p.target)
  | .matched =>
    match a.poll with
    | .matched _ => true
    | _ => false
  | .quadTest => prompt a && !(byteOf a &&& c.qeMask == 0x00#8)
  | .quadOff => prompt a && (byteOf a &&& c.qeMask == 0x00#8)
  | .declined => a.xfer == .notAccepted

/-- One answer for each call, each as its role needs it. -/
def meets (c : Cfg) (cs : List WireCall) (as : List Answer) : Bool :=
  cs.length == as.length && (cs.zip as).all fun x => x.1.role.met c x.2

/-- A call whose answer ends a poll of reads. -/
def WireCall.isPoll (k : WireCall) : Bool :=
  match k.role with
  | .polled _ => true
  | _ => false

/-- The bytes delivered to HOST. -/
def capturedBytes (cs : List WireCall) (as : List Answer) : List Byte :=
  (cs.zip as).filterMap fun x => if x.1.role = .captured then some (byteOf x.2) else none

/-- The byte a poll takes from an answer. -/
def Role.status (r : Role) (a : Answer) : Option Byte :=
  match r with
  | .polled _ => some (byteOf a)
  | .pending _ => some (byteOf a)
  | .matched =>
    match a.poll with
    | .matched sr => some sr
    | _ => none
  | _ => none

/-- The byte the sequencer keeps from an answer (41_sequencer_poller.md R158). -/
def Role.kept (r : Role) (a : Answer) : Option Byte :=
  match r with
  | .polled _ => some (byteOf a)
  | .pending _ => some (byteOf a)
  | .quadTest => some (byteOf a)
  | .quadOff => some (byteOf a)
  | _ => none

/-- The last byte `f` finds in the answers, or `old`. -/
def lastByte (f : Role → Answer → Option Byte) (cs : List WireCall) (as : List Answer) (old : Byte) : Byte :=
  (((cs.zip as).filterMap fun x => f x.1.role x.2).getLast?).getD old

/-- The simple additive checksum of some bytes (40_phase_encoder.md R134). -/
def checksum (bits : Nat) (bs : List Byte) : Word := BitVec.ofNat 32 ((bs.map (·.toNat)).sum % 2 ^ bits)

/-- The tokens the calls add to the trace (00_scope.md R14). -/
def traceOf (cs : List WireCall) (as : List Answer) : List Event :=
  (cs.zip as).map fun x => { call := x.1.call, reply := replyTo x.1.call x.2 }

/-- The working copies command `i` takes (41_sequencer_poller.md R153). -/
def State.sample (s : State) (i : Instr) : Sampled :=
  { addr := s.addr, addr2 := s.addr2, len := s.len, arg := s.arg, a4b := s.a4b, qpi := s.qpiEn, dtr := s.dtrEn
    fmt := i.format }

/-- The state command `i`, issued in `s`, leaves when the calls `cs` were all of it and met the answers `as`, `rest` being
the answers not used: RESULT = OK, RUN = 0, DONE = 1, IDLE; RX and CKSUM what was captured; LASTSR and N those of the
last wait; TM the mode last latched; the calls in the trace. Everything not named is as it was. -/
def State.completedBy (s : State) (i : Instr) (cs : List WireCall) (as rest : List Answer) : State :=
  { s with
    cmd := encode i
    result := .ok
    run := false
    done := true
    cksum := checksum s.cfg.cksumBits (capturedBytes cs as)
    rx := capturedBytes cs as
    tm := modeAfter s.tm cs
    lastSr := lastByte Role.status cs as s.lastSr
    todo := []
    smp := s.sample i
    sr := lastByte Role.kept cs as s.sr
    n := if cs.any WireCall.isPoll then 1 else s.n
    txUsed := 0
    rxRead := 0
    xp := rest
    trace := s.trace ++ traceOf cs as }

/-- The same when the items `ws` were all of the command. -/
def State.completed (s : State) (i : Instr) (ws : List WireItem) (as rest : List Answer) : State :=
  s.completedBy i (wireCalls s.cfg s.tm ws) as rest

/-- The items of a command of one bracket with descriptor `d` and transmitted bytes `tx`. -/
def State.bracket (s : State) (i : Instr) (d : CmdDesc) (tx : List Byte) : List WireItem :=
  bracketWire s.cfg (s.sample i) d s.addr s.addr2 tx .plain

/-- A command's use of the whole TX operand: the FIFO is empty and all LEN bytes were handed over. -/
def State.txDone (s : State) : State := { s with txFifo := [], txUsed := s.len.toNat }

/-- The read command `READ_VARIANT(qpi, dtr)` gives the flags (48_composite.md R291). -/
def readCommandFor (s : State) : ReadCmd :=
  s.cfg.readVariant[2 * s.qpiEn.toNat + s.dtrEn.toNat]'(by cases s.qpiEn <;> cases s.dtrEn <;> decide)

/-- The erase ARG names, with the class of its wait (48_composite.md R295). -/
def eraseOf (s : State) : CmdDesc × BudgetClass :=
  match s.arg.toNat with
  | 0 => ({ opc := .se, addr := .a4bSized }, .erase4k)
  | 1 => ({ opc := .be32, addr := .a4bSized }, .erase32k)
  | 2 => ({ opc := .be64, addr := .a4bSized }, .erase64k)
  | _ => ({ opc := .ce }, .eraseChip)

/-! ## The causes of InvalidArgument -/

/-- The complete list of 60_exceptions.md R313, for the commands of the catalogue, with PAGE_SIZE for its 256 (log 28), the
sum of PB_WRITE and PB_READ not wrapping (log 27), and the address width of 20_memory.md R71 for the security-register
commands and for PB_WRITE and PB_READ too (log 36). -/
def illegal (i : Instr) (s : State) : Bool :=
  let top := if s.a4b then 2 ^ (8 * s.cfg.addrBytes[1]) else 2 ^ (8 * s.cfg.addrBytes[0])
  let wide := decide (top ≤ s.addr.toNat)
  let empty := s.len.toNat == 0
  let noBase := !((List.range s.cfg.secCount).any fun i => s.addr == s.cfg.secBase + BitVec.ofNat 32 (i * s.cfg.secSpacing))
  match i with
  | .waitReady => decide (7 < s.arg.toNat)
  | .readData | .fastRead | .readDualOut | .readDualIo | .readQuadOut | .readQuadIo | .readDtr | .readDualIoDtr
  | .readQuadIoDtr | .read => empty || wide
  | .pageProgram => empty || decide (s.cfg.pageSize < s.len.toNat) || wide
  | .sectorErase | .block32Erase | .block64Erase | .pbProgram | .pbLoad => wide
  | .secRead | .secProgram => noBase || empty || decide (s.cfg.secSize < s.len.toNat) || wide
  | .secErase => noBase || wide
  | .checksumCalc =>
    !(s.cfg.chkSet.contains s.addr) || decide (s.addr2.toNat < s.addr.toNat) || decide (top ≤ s.addr2.toNat)
  | .pbWrite | .pbRead =>
    empty || decide (s.cfg.pageSize ≤ s.addr.toNat) || decide (s.cfg.pageSize < s.addr.toNat + s.len.toNat) || wide
  | .write => empty || decide (top < s.addr.toNat + s.len.toNat)
  | .erase => decide (3 < s.arg.toNat) || (s.arg.toNat != 3 && wide)
  | .writeEnable | .writeDisable | .readSr1 | .readSr2 | .readSr3 | .writeSr1 | .writeSr2 | .writeSr3 | .chipErase
  | .readJedecId | .readMfrId | .readUniqueId | .enter4b | .exit4b | .enterQpi | .exitQpi | .dtrEnable | .dtrDisable
  | .softReset | .checksumRead | .pbClear | .getId | .getStatus => false

/-! ## The catalogue on the wire -/

/-- What each command of the catalogue puts on the wire before its trailing wait when nothing fails: its rule's descriptor,
42_status.md to 48_composite.md, as items. WRITE's waits lie inside its chunks. -/
def mainOf (i : Instr) (s : State) : List WireItem :=
  match i with
  | .writeEnable => s.bracket .writeEnable { opc := .wren } []
  | .writeDisable => s.bracket .writeDisable { opc := .wrdi } []
  | .readSr1 => s.bracket .readSr1 { opc := .rdsr1, data := .rx (.const 1) } []
  | .readSr2 => s.bracket .readSr2 { opc := .rdsr2, data := .rx (.const 1) } []
  | .readSr3 => s.bracket .readSr3 { opc := .rdsr3, data := .rx (.const 1) } []
  | .writeSr1 => s.bracket .writeSr1 { opc := .wrsr1, data := .tx .arg1 } [s.arg]
  | .writeSr2 => s.bracket .writeSr2 { opc := .wrsr2, data := .tx .arg1 } [s.arg]
  | .writeSr3 => s.bracket .writeSr3 { opc := .wrsr3, data := .tx .arg1 } [s.arg]
  | .waitReady => []
  | .readData => s.bracket .readData { opc := .read, addr := .a4bSized, data := .rx .len } []
  | .fastRead => s.bracket .fastRead { opc := .fastRead, addr := .a4bSized, data := .rx .len } []
  | .readDualOut => s.bracket .readDualOut { opc := .dualOut, addr := .a4bSized, data := .rx .len } []
  | .readDualIo => s.bracket .readDualIo { opc := .dualIo, addr := .a4bSized, data := .rx .len } []
  | .readQuadOut => s.bracket .readQuadOut { opc := .quadOut, addr := .a4bSized, data := .rx .len } []
  | .readQuadIo => s.bracket .readQuadIo { opc := .quadIo, addr := .a4bSized, data := .rx .len } []
  | .readDtr => s.bracket .readDtr { opc := .dtrRead, addr := .a4bSized, data := .rx .len } []
  | .readDualIoDtr => s.bracket .readDualIoDtr { opc := .dualIoDtr, addr := .a4bSized, data := .rx .len } []
  | .readQuadIoDtr => s.bracket .readQuadIoDtr { opc := .quadIoDtr, addr := .a4bSized, data := .rx .len } []
  | .pageProgram => s.bracket .pageProgram { opc := .pp, addr := .a4bSized, data := .tx .len } s.txFifo
  | .sectorErase => s.bracket .sectorErase { opc := .se, addr := .a4bSized } []
  | .block32Erase => s.bracket .block32Erase { opc := .be32, addr := .a4bSized } []
  | .block64Erase => s.bracket .block64Erase { opc := .be64, addr := .a4bSized } []
  | .chipErase => s.bracket .chipErase { opc := .ce } []
  | .readJedecId => s.bracket .readJedecId { opc := .jedec, data := .rx (.const s.cfg.jedecBytes) } []
  | .readMfrId => s.bracket .readMfrId { opc := .mfr, addr := .zero3, data := .rx (.const s.cfg.mfrBytes) } []
  | .readUniqueId => s.bracket .readUniqueId { opc := .uid, data := .rx (.const s.cfg.uidBytes) } []
  | .secRead => s.bracket .secRead { opc := .secRead, addr := .a4bSized, data := .rx .len } []
  | .secProgram => s.bracket .secProgram { opc := .secProg, addr := .a4bSized, data := .tx .len } s.txFifo
  | .secErase => s.bracket .secErase { opc := .secErase, addr := .a4bSized } []
  | .enter4b => s.bracket .enter4b { opc := .en4b } []
  | .exit4b => s.bracket .exit4b { opc := .ex4b } []
  | .enterQpi =>
    status2Wire s.cfg (s.sample .enterQpi) .quadTest ++
      s.bracket .enterQpi { opc := .enqpi } []
  | .exitQpi => s.bracket .exitQpi { opc := .exqpi, opcodeOff := true } []
  | .dtrEnable => []
  | .dtrDisable => []
  | .softReset => s.bracket .softReset { opc := .rsten } [] ++ s.bracket .softReset { opc := .rst } []
  | .checksumCalc => s.bracket .checksumCalc { opc := .chkCalc, addr := .a4bSizedTwice } []
  | .checksumRead => s.bracket .checksumRead { opc := .chkRead, data := .rx (.const s.cfg.chkLen) } []
  | .pbClear => s.bracket .pbClear { opc := .pbClear } []
  | .pbWrite => s.bracket .pbWrite { opc := .pbWrite, addr := .a4bSized, data := .tx .len } s.txFifo
  | .pbRead => s.bracket .pbRead { opc := .pbRead, addr := .a4bSized, data := .rx .len } []
  | .pbProgram => s.bracket .pbProgram { opc := .pbProg, addr := .a4bSized } []
  | .pbLoad => s.bracket .pbLoad { opc := .pbLoad, addr := .a4bSized } []
  | .read => s.bracket .read { opc := (readCommandFor s).opc, addr := .a4bSized, data := .rx .len } []
  | .write => (chunks s.cfg.pageSize s.addr.toNat s.len.toNat).flatMap (chunkWire s.cfg (s.sample .write) s.txFifo)
  | .erase => enableWire s.cfg (s.sample .erase) ++ s.bracket .erase (eraseOf s).1 []
  | .getId => s.bracket .getId { opc := .jedec, data := .rx (.const s.cfg.jedecBytes) } []
  | .getStatus => s.bracket .getStatus { opc := .rdsr1, data := .rx (.const 1) } []

/-- The trailing wait of each command that has one (41_sequencer_poller.md R171, R174). -/
def waitOf (i : Instr) (s : State) : Option PollSpec :=
  match i with
  | .writeEnable => some (welSpec s.cfg)
  | .writeSr1 => some (busySpec s.cfg .srWrite)
  | .writeSr2 => some (busySpec s.cfg .srWrite)
  | .writeSr3 => some (busySpec s.cfg .srWrite)
  | .waitReady =>
    some (busySpec s.cfg
      ([BudgetClass.wel, .program, .erase4k, .erase32k, .erase64k, .eraseChip, .srWrite, .checksum].getD s.arg.toNat .wel))
  | .pageProgram => some (busySpec s.cfg .program)
  | .sectorErase => some (busySpec s.cfg .erase4k)
  | .block32Erase => some (busySpec s.cfg .erase32k)
  | .block64Erase => some (busySpec s.cfg .erase64k)
  | .chipErase => some (busySpec s.cfg .eraseChip)
  | .secProgram => some (busySpec s.cfg .program)
  | .secErase => some (busySpec s.cfg .erase4k)
  | .checksumCalc => some (busySpec s.cfg .checksum)
  | .pbProgram => some (busySpec s.cfg .program)
  | .erase => some (busySpec s.cfg (eraseOf s).2)
  | _ => none

/-- All a command puts on the wire when its waits end at their first read. -/
def wireOf (i : Instr) (s : State) : List WireItem :=
  mainOf i s ++
    match waitOf i s with
    | some spec => waitWire s.cfg (s.sample i) spec
    | none => []

/-- A command's own further effect on the state: the flag it commits (41_sequencer_poller.md R161), the TX it used up, and
what WRITE's working registers end at (48_composite.md R292). -/
def ownEffect (i : Instr) (t : State) : State :=
  match i with
  | .pageProgram => t.txDone
  | .secProgram => t.txDone
  | .enter4b => { t with a4b := true }
  | .exit4b => { t with a4b := false }
  | .enterQpi => { t with qpiEn := true }
  | .exitQpi => { t with qpiEn := false }
  | .dtrEnable => { t with dtrEn := true }
  | .dtrDisable => { t with dtrEn := false }
  | .pbWrite => t.txDone
  | .write => { t.txDone with off := t.addr + t.len, rem := 0, srci := t.len }
  | _ => t

/-- The operands a command needs: none of R313's causes; of TX exactly LEN bytes (10_state.md R25); for WRITE, pages that
hold a byte and an end that OFF can hold, which R313 gives when ADDR_BYTES is at most 4. -/
def operandsGood (i : Instr) (s : State) : Bool :=
  !illegal i s && (i.format != .fALD || s.txFifo.length == s.len.toNat) &&
    (i != .write || (decide (0 < s.cfg.pageSize) && decide (s.addr.toNat + s.len.toNat ≤ 2 ^ 32)))

/-- Command `i` completes: issued in any state with the block idle, every budget at least 1 (00_scope.md R9) and good
operands, when the answers XP gives meet the calls of `wireOf i`, it ends OK having made exactly those calls. -/
def Completes (i : Instr) : Prop :=
  ∀ (s : State) (as rest : List Answer), s.run = false → (∀ k, 0 < s.cfg.budget k) → operandsGood i s = true →
    s.xp = as ++ rest → meets s.cfg (wireCalls s.cfg s.tm (wireOf i s)) as = true →
    exec i s = .next (ownEffect i (s.completed i (wireOf i s) as rest))

/-! ## Waits that take more than one read -/

/-- `k` poll reads that do not end the wait. -/
def pendingReads (c : Cfg) (p : Sampled) (spec : PollSpec) (k : Nat) : List WireItem :=
  (List.replicate k (statusWire c p (.pending spec))).flatten

/-- The trailing wait of command `i` reads the status `k` times without success and then once with success
(41_sequencer_poller.md R168): the command ends OK with LASTSR the last status read and N the number of reads. -/
def WaitsUntilReady (i : Instr) : Prop :=
  ∀ (s : State) (spec : PollSpec) (k : Nat) (as rest : List Answer), s.run = false → s.cfg.pollImpl = .reads →
    (∀ k, 0 < s.cfg.budget k) → operandsGood i s = true → waitOf i s = some spec →
    k < s.cfg.budget spec.cls → s.cfg.budget spec.cls < 2 ^ 32 → s.xp = as ++ rest →
    let ws := mainOf i s ++ pendingReads s.cfg (s.sample i) spec k ++ statusWire s.cfg (s.sample i) (.polled spec)
    meets s.cfg (wireCalls s.cfg s.tm ws) as = true →
    exec i s = .next (ownEffect i { s.completed i ws as rest with n := BitVec.ofNat 32 (k + 1) })

/-- The trailing wait of command `i` reads the status as often as its budget allows without success, and the command ends
with the wait's error (41_sequencer_poller.md R172, 60_exceptions.md R314, R315). -/
def TimesOut (i : Instr) : Prop :=
  ∀ (s : State) (spec : PollSpec) (as rest : List Answer), s.run = false → s.cfg.pollImpl = .reads →
    (∀ k, 0 < s.cfg.budget k) → operandsGood i s = true → waitOf i s = some spec →
    s.cfg.budget spec.cls < 2 ^ 32 → s.xp = as ++ rest →
    let ws := mainOf i s ++ pendingReads s.cfg (s.sample i) spec (s.cfg.budget spec.cls)
    meets s.cfg (wireCalls s.cfg s.tm ws) as = true →
    exec i s = .next (ownEffect i
      { s.completed i ws as rest with result := spec.err, n := BitVec.ofNat 32 (s.cfg.budget spec.cls) })

/-! ## Every wait, and every byte sent again -/

/-- A stretch of a command on the wire: items that are always the same, or a wait. -/
inductive Part
  | items (ws : List WireItem)
  | wait (spec : PollSpec)
  deriving DecidableEq, Repr

/-- The write-enable sub-command and a mutating bracket with its wait (48_composite.md R290, R292, R295). -/
def enabledParts (c : Cfg) (p : Sampled) (bracket : List WireItem) (k : BudgetClass) : List Part :=
  [.items (bracketWire c p { opc := .wren } 0 0 [] .plain), .wait (welSpec c), .items bracket, .wait (busySpec c k)]

/-- A command as its items and its waits, in order: WRITE has two waits for each chunk, ERASE two, the other commands at
most the trailing one. -/
def partsOf (i : Instr) (s : State) : List Part :=
  match i with
  | .write =>
    (chunks s.cfg.pageSize s.addr.toNat s.len.toNat).flatMap fun k =>
      enabledParts s.cfg (s.sample .write)
        (bracketWire s.cfg (s.sample .write) { opc := .pp, addr := .a4bSized, data := .tx .len } (BitVec.ofNat 32 k.1) 0
          ((s.txFifo.drop k.2.1).take k.2.2) .plain)
        .program
  | .erase => enabledParts s.cfg (s.sample .erase) (s.bracket .erase (eraseOf s).1 []) (eraseOf s).2
  | _ => .items (mainOf i s) :: (waitOf i s).toList.map .wait

/-- A wait ended by its read number `k + 1`, the `k` reads before it not showing the bit. -/
def waitReads (c : Cfg) (p : Sampled) (spec : PollSpec) (k : Nat) : List WireItem :=
  match c.pollImpl with
  | .reads => pendingReads c p spec k ++ statusWire c p (.polled spec)
  | .assisted => waitWire c p spec

/-- The wire of some parts, `ks` being how many reads of each wait do not end it. -/
def partsWire (c : Cfg) (p : Sampled) (ps : List Part) (ks : List Nat) : List WireItem :=
  match ps with
  | [] => []
  | .items ws :: rest => ws ++ partsWire c p rest ks
  | .wait spec :: rest => waitReads c p spec (ks.headD 0) ++ partsWire c p rest ks.tail

/-- Every wait has a read left in its budget for the one that ends it (41_sequencer_poller.md R168), and N can count the
reads before it (10_state.md R47). -/
def withinBudget (c : Cfg) (ps : List Part) (ks : List Nat) : Bool :=
  match ps with
  | [] => true
  | .items _ :: rest => withinBudget c rest ks
  | .wait spec :: rest =>
    decide (ks.headD 0 < c.budget spec.cls) && decide (ks.headD 0 < 2 ^ 32) && withinBudget c rest ks.tail

/-- How many reads the last wait makes; none when there is no wait. -/
def lastReads (ps : List Part) (ks : List Nat) : Option Nat :=
  match ps with
  | [] => none
  | .items _ :: rest => lastReads rest ks
  | .wait _ :: rest => some ((lastReads rest ks.tail).getD (ks.headD 0 + 1))

/-- The calls with each byte that may be sent again declined first, `ms` being how often (40_phase_encoder.md R136,
41_sequencer_poller.md R159). -/
def withRetries (ms : List Nat) (cs : List WireCall) : List WireCall :=
  match cs with
  | [] => []
  | k :: rest =>
    if k.retry then List.replicate (ms.headD 0) { k with role := .declined } ++ k :: withRetries ms.tail rest
    else k :: withRetries ms rest

/-- The calls of some parts with `ks` reads in vain and `ms` declined bytes. -/
def partsCalls (c : Cfg) (p : Sampled) (tm : Mode) (ps : List Part) (ks ms : List Nat) : List WireCall :=
  withRetries ms (wireCalls c tm (partsWire c p ps ks))

/-- N after some parts: the reads of the last wait, an assisted one making none that SEQ sees (log 25). -/
def readsN (c : Cfg) (ps : List Part) (ks : List Nat) (old : Word) : Word :=
  match c.pollImpl, lastReads ps ks with
  | .reads, some k => BitVec.ofNat 32 k
  | _, _ => old

/-- Command `i` completes however many reads each of its waits takes within the budget, and however often each byte it
sends is declined. -/
def CompletesHowever (i : Instr) : Prop :=
  ∀ (s : State) (ks ms : List Nat) (as rest : List Answer), s.run = false →
    operandsGood i s = true → withinBudget s.cfg (partsOf i s) ks = true → s.xp = as ++ rest →
    let cs := partsCalls s.cfg (s.sample i) s.tm (partsOf i s) ks ms
    meets s.cfg cs as = true →
    exec i s = .next (ownEffect i { s.completedBy i cs as rest with n := readsN s.cfg (partsOf i s) ks s.n })

/-- What command `i`, issued in `s`, leaves in `t` when it ended with the error `e` after the calls `cs`, which met `as`, and
then the events `es`: the rows of 60_exceptions.md R319, with the TX FIFO emptied of the operand (log 10). -/
def State.endedWith (s t : State) (i : Instr) (e : Result) (cs : List WireCall) (as : List Answer) (es : List Event) :
    Prop :=
  t.cmd = encode i ∧ t.result = e ∧ t.run = false ∧ t.done = true ∧ t.todo = [] ∧
  t.a4b = s.a4b ∧ t.qpiEn = s.qpiEn ∧ t.dtrEn = s.dtrEn ∧ t.tm = modeAfter s.tm cs ∧
  t.rx = capturedBytes cs as ∧ t.cksum = checksum s.cfg.cksumBits (capturedBytes cs as) ∧
  t.trace = s.trace ++ traceOf cs as ++ es ∧ t.txFifo = if i.format = .fALD then [] else s.txFifo

/-- Any wait of command `i`, the trailing one or one inside WRITE or ERASE, that reads the status as often as its budget
allows without success ends the command with its error (41_sequencer_poller.md R172, 60_exceptions.md R314, R315). -/
def AnyWaitTimesOut (i : Instr) : Prop :=
  ∀ (s : State) (before after : List Part) (spec : PollSpec) (ks ms : List Nat) (as rest : List Answer), s.run = false →
    s.cfg.pollImpl = .reads → s.cfg.budget spec.cls < 2 ^ 32 → operandsGood i s = true →
    partsOf i s = before ++ .wait spec :: after → withinBudget s.cfg before ks = true → s.xp = as ++ rest →
    let p := s.sample i
    let cs := withRetries ms (wireCalls s.cfg s.tm
      (partsWire s.cfg p before ks ++ pendingReads s.cfg p spec (s.cfg.budget spec.cls)))
    meets s.cfg cs as = true →
    ∃ t, exec i s = .next t ∧ s.endedWith t i spec.err cs as [] ∧ t.lastSr = lastByte Role.status cs as s.lastSr ∧
      t.n = BitVec.ofNat 32 (s.cfg.budget spec.cls) ∧ t.xp = rest

/-- The same with POLL_IMPL = ASSISTED: XP answers `TimedOut(sr)`, the command ends with the wait's error and LASTSR is sr
(41_sequencer_poller.md R173). -/
def AnyAssistedWaitTimesOut (i : Instr) : Prop :=
  ∀ (s : State) (before after : List Part) (spec : PollSpec) (ms : List Nat) (as rest : List Answer) (bad : Answer)
    (sr : Byte), s.run = false → s.cfg.pollImpl = .assisted → operandsGood i s = true →
    partsOf i s = before ++ .wait spec :: after → s.xp = as ++ bad :: rest → bad.poll = .timedOut sr →
    let p := s.sample i
    let cs := partsCalls s.cfg p s.tm before [] ms
    meets s.cfg cs as = true →
    ∃ t, exec i s = .next t ∧
      s.endedWith t i spec.err cs as
        [{ call := .autoPoll (s.cfg.opcode p.a4b .rdsr1) (eff .l1 p.qpi) spec.mask spec.target (s.cfg.budget spec.cls)
           reply := .poll (.timedOut sr) }] ∧
      t.lastSr = sr ∧ t.xp = rest

/-! ## Failures -/

/-- An answer that fails a call (60_exceptions.md R311, R312). -/
def refuses (k : WireCall) (a : Answer) : Bool :=
  match k.call with
  | .transfer _ _ =>
    match a.xfer with
    | .done _ => false
    | .notAccepted => !k.retry
    | .error => true
  | .autoPoll _ _ _ _ _ => a.poll == .error
  | _ => a.call == .error

/-- Whether a failure of this call leaves a bracket open, which the abort path closes (60_exceptions.md R318). -/
def leavesOpen (k : WireCall) : Bool :=
  match k.call with
  | .configure _ => true
  | .transfer _ _ => true
  | _ => false

/-- The error a failed call becomes (60_exceptions.md R311, R312). -/
def failureOf (k : WireCall) : Result := if k.data then .transportDataFailed else .transportCommandFailed

/-- What command `i`, issued in `s`, leaves in `t` when the calls `pre` met `as` and the call `k` after them was refused by
`bad`: the rows of 60_exceptions.md R319, `close` being the answer to the abort path's `select_high`. A poll read's byte
reaches LASTSR once its bracket has closed (41_sequencer_poller.md R168), so not when `k` is that `select_high`. -/
def State.failedAt (s t : State) (i : Instr) (pre : List WireCall) (as : List Answer) (k : WireCall)
    (bad close : Answer) : Prop :=
  t.cmd = encode i ∧ t.result = failureOf k ∧ t.run = false ∧ t.done = true ∧ t.todo = [] ∧
  t.a4b = s.a4b ∧ t.qpiEn = s.qpiEn ∧ t.dtrEn = s.dtrEn ∧
  t.tm = modeAfter s.tm pre ∧
  t.rx = capturedBytes pre as ∧ t.cksum = checksum s.cfg.cksumBits (capturedBytes pre as) ∧
  t.lastSr = lastByte Role.status (if k.call = .selectHigh then pre.dropLast else pre) as s.lastSr ∧
  t.trace = s.trace ++ traceOf pre as ++ [{ call := k.call, reply := replyTo k.call bad }] ++
    (if leavesOpen k then [{ call := .selectHigh, reply := .call close.call }] else [])

/-- Command `i` fails at the first call that is refused, whichever it is, also in a wait's later reads and at a byte sent
again, and makes no further call but the abort path's (60_exceptions.md R316, R318). -/
def FailsAtFirstRefusal (i : Instr) : Prop :=
  ∀ (s : State) (ks ms : List Nat) (pre post : List WireCall) (k : WireCall) (as rest : List Answer) (bad close : Answer),
    s.run = false → operandsGood i s = true → withinBudget s.cfg (partsOf i s) ks = true →
    partsCalls s.cfg (s.sample i) s.tm (partsOf i s) ks ms = pre ++ k :: post → meets s.cfg pre as = true →
    refuses k bad = true →
    s.xp = as ++ bad :: close :: rest →
    ∃ t, exec i s = .next t ∧ s.failedAt t i pre as k bad close ∧ t.xp = if leavesOpen k then rest else close :: rest

/-! ## Invariants -/

/-- TM is normalised (10_state.md R32): on one line its direction is TO_CHIP. -/
def State.tmNormal (s : State) : Prop := s.tm.lines = .l1 → s.tm.dir = .toChip

/-- The last item of a running command ends it. -/
def endsCommand (ops : List Op) : Bool :=
  match ops.getLast? with
  | some (.finish _) => true
  | some (.abort _ _) => true
  | _ => false

/-- An item that stands for a phase stands outside IDLE (10_state.md R28). -/
def placed (op : Op) : Bool :=
  match op with
  | .phase pos _ _ => pos.st != .idle
  | .preset pos _ => pos.st != .idle
  | .modeOff pos => pos.st != .idle
  | .abort _ pos => pos.st != .idle
  | _ => true

/-- Whether a list of items has the command's end at its head. -/
def endsNow (ops : List Op) : Bool :=
  match ops with
  | .finish _ :: _ => true
  | _ => false

/-- Something is left to do exactly while RUN = 1, it ends in the command's end, and DONE is 0 meanwhile (10_state.md
R22, R27). -/
def State.runCoherent (s : State) : Prop :=
  (s.run = false → s.todo = []) ∧
  (s.run = true → endsCommand s.todo = true ∧ endsNow s.todo = false ∧ s.todo.all placed = true ∧ s.done = false)

/-- CKSUM is the sum of the bytes of RX (10_state.md R23), RXDATA has popped no more than there are (R24), and the
register holds CKSUM_BITS bits. -/
def State.sumCoherent (s : State) : Prop :=
  s.cfg.cksumBits ≤ 32 ∧ s.cksum = checksum s.cfg.cksumBits s.rx ∧ s.rxRead ≤ s.rx.length

/-- Which commands write a mode flag (10_state.md R29 to R31). -/
def writesFlag (f : Flag) (v : Bool) : Instr :=
  match f, v with
  | .a4b, true => .enter4b
  | .a4b, false => .exit4b
  | .qpiEn, true => .enterQpi
  | .qpiEn, false => .exitQpi
  | .dtrEn, true => .dtrEnable
  | .dtrEn, false => .dtrDisable

/-- Every flag the running command has still to write is its own. -/
def State.commitsOwn (s : State) : Prop := ∀ f v, Op.commit f v ∈ s.todo → s.cmd = encode (writesFlag f v)

/-- A mode flag's value. -/
def State.flag (s : State) (f : Flag) : Bool :=
  match f with
  | .a4b => s.a4b
  | .qpiEn => s.qpiEn
  | .dtrEn => s.dtrEn

/-- A data loop's item is due while its index is below its count. -/
def due (op : Op) : Bool :=
  match op with
  | .rx _ i count => decide (i < count)
  | .tx _ i count _ => decide (i < count)
  | _ => true

/-- The calls an outcome has put in the trace. -/
def callsMade (o : Host.Outcome State Fault Refusal) : List Call :=
  match o with
  | .next t => t.trace.map (·.call)
  | _ => []

/-- A byte transferred with `WAIT`: the trace's `X[tt>rr]` (00_scope.md R14). -/
def sent (b : Byte) : Call := .transfer b true

/-- The trace's `CF(l,r,d)` (00_scope.md R14). -/
def conf (l : Lines) (r : Rate) (d : Dir) : Call := .configure { lines := l, rate := r, dir := d }

/-- The mode latched after some tokens of the trace: that of the last `configure` answered `Ok` (10_state.md R32). -/
def latchedBy (tm : Mode) (es : List Event) : Mode :=
  es.foldl (fun m e => match e.call, e.reply with
    | .configure m', .call .ok => m'
    | _, _ => m) tm

/-- The commands a status wait belongs to (41_sequencer_poller.md R174, 48_composite.md R292, R295). -/
def waits (i : Instr) : Bool :=
  match i with
  | .writeEnable | .waitReady | .writeSr1 | .writeSr2 | .writeSr3 | .pageProgram | .secProgram | .pbProgram | .sectorErase
  | .block32Erase | .block64Erase | .chipErase | .secErase | .checksumCalc | .write | .erase => true
  | _ => false

end Sys2Proof.Machine
end

