-- ==== Sys2Proof/Certificates/Slice0/Obligations.lean ====
section
/-! DEFINITION. The statements for the provers. Each docstring says what its statement formalises; OBLIGATIONS.json cites
the rules. Terms are those of Sys2Proof/Safety.lean. -/

open Sys2Proof Sys2Proof.Machine

/-- O1, R96. The bytes 0x01, 0x16, 0x20, 0x34, 0x46, 0x50, 0x5C and 0x81 decode to WRITE_ENABLE, READ_DTR, PAGE_PROGRAM,
SEC_READ, SOFT_RESET, CHECKSUM_CALC, PB_LOAD and WRITE. -/
def Obligations.CodesDecodeToTheirCommands : Prop :=
  decodeCode 0b00000001#8 = .ok .writeEnable ∧ decodeCode 0b00010110#8 = .ok .readDtr ∧
  decodeCode 0b00100000#8 = .ok .pageProgram ∧ decodeCode 0b00110100#8 = .ok .secRead ∧
  decodeCode 0b01000110#8 = .ok .softReset ∧ decodeCode 0b01010000#8 = .ok .checksumCalc ∧
  decodeCode 0b01011100#8 = .ok .pbLoad ∧ decodeCode 0b10000001#8 = .ok .write

/-- O2, R91, R96. For every command i and any following bytes, decode of encode i is i; and a byte that decodes to i is
encode i. -/
def Obligations.DecodeAndEncodeAgree : Prop :=
  (∀ (i : Instr) (rest : List Byte), decode (encode i :: rest) = .ok (i, rest)) ∧
  (∀ (b : Byte) (i : Instr), decodeCode b = .ok i → b = encode i)

/-- O3, R101. With the block idle, writing to CMD a code that is no command's gives the state with RESULT
InvalidArgument, RUN 0, DONE 1, CKSUM 0 and RX empty, CMD the code written, no transport call and every flag as
before; 0x00 and 0x60 to 0x6F are such codes. -/
def Obligations.UndefinedCodesAreRefused : Prop :=
  (∀ (code : Byte) (s : State), s.run = false → (∀ i, encode i ≠ code) →
    writeCmd code s = .next { s with
      cmd := code, result := .invalidArgument, run := false, done := true, todo := [], cksum := 0, rx := [],
      rxRead := 0 }) ∧
  (∀ (code : Byte) (i : Instr), code = 0x00#8 ∨ (0x60 ≤ code.toNat ∧ code.toNat ≤ 0x6F) → encode i ≠ code)

/-- O4, R94. A 16-bit word decodes to a descriptor if and only if DUMMY is 00 or RATE is 1, LINES is not 11, bits 15:11
are 0, CAPTURE is not set together with DISCARD or RSUCC, and a DUMMY other than 00 comes with RSUCC and CAPTURE
clear; DIR with LINES = 00 never matters; and the descriptors the six constructors build, with or without MODE_OFF
on the opcode phase, are legal, and a legal descriptor stays legal when MODE_OFF is added, as it is on the last
phase of a bracket. -/
def Obligations.PhaseWordsAreLegalByTheChecks : Prop :=
  (∀ w : BitVec 16, (∃ pd, decodePD w = .ok pd) ↔
    ((w.extractLsb' 4 2 ≠ 0#2 → w.getLsbD 2 = true) ∧ w.extractLsb' 0 2 ≠ 3#2 ∧ w.extractLsb' 11 5 = 0#5 ∧
      ¬ (w.getLsbD 7 = true ∧ w.getLsbD 10 = true) ∧ ¬ (w.getLsbD 8 = true ∧ w.getLsbD 10 = true) ∧
      (w.extractLsb' 4 2 ≠ 0#2 → w.getLsbD 8 = false ∧ w.getLsbD 10 = false))) ∧
  (∀ w : BitVec 16, w.extractLsb' 0 2 = 0#2 → decodePD (w ||| 0x0008#16) = decodePD (w &&& 0xFFF7#16)) ∧
  (∀ (m : Width) (l : Lines) (r : Rate) (d : Dir) (k : Preset) (qpi last off : Bool),
    (pdOpc qpi off).legal = true ∧ (pdAdr m qpi).legal = true ∧ (pdDmy l r d qpi).legal = true ∧
    (pdDpk k).legal = true ∧ (pdRx m qpi last).legal = true ∧ (pdRxi qpi).legal = true ∧
    (pdTx m qpi last).legal = true) ∧
  (∀ pd : PD, pd.legal = true → pd.withModeOff.legal = true)

/-- O5, R93, R94. Decoding the word of a legal descriptor gives the descriptor with the direction of a one-line phase
read as TO_CHIP; and a word that decodes is the word of what it decodes to, but for bit 3 when LINES is 00. -/
def Obligations.PhaseWordRoundTrip : Prop :=
  (∀ pd : PD, pd.legal = true → decodePD (encodePD pd) = .ok pd.canonical) ∧
  (∀ (w : BitVec 16) (pd : PD), decodePD w = .ok pd →
    encodePD pd = if w.extractLsb' 0 2 = 0#2 then w &&& 0xFFF7#16 else w)

/-- O6, R38. In every state bit 0 of STATUS is RUN, bit 1 is DONE, bits 3:2 are 0, bits 7:4 are the code of RESULT (0
OK, 1 TransportCommandFailed, 2 TransportDataFailed, 3 InvalidArgument, 4 BusyTimeout, 5 WriteEnableFailed), and a
write to offset 0x14 changes nothing. -/
def Obligations.StatusRegisterImage : Prop :=
  (∀ s : State, s.statusReg.getLsbD 0 = s.run ∧ s.statusReg.getLsbD 1 = s.done ∧ s.statusReg.extractLsb' 2 2 = 0#2 ∧
    s.statusReg.extractLsb' 4 4 = match s.result with
      | .ok => 0#4
      | .transportCommandFailed => 1#4
      | .transportDataFailed => 2#4
      | .invalidArgument => 3#4
      | .busyTimeout => 4#4
      | .writeEnableFailed => 5#4) ∧
  (∀ (s : State) (v : Word), regValue 0x14 s = s.statusReg.setWidth 32 ∧ regWrite 0x14 v s = .next s)

/-- O7, R39. Bits 0, 1 and 2 of FLAGS are A4B, QPI_EN and DTR_EN, bits 7:3 are 0; a write to offset 0x18 changes
nothing; and a command whose execution changes a flag is the mode switch that sets the flag to its new value. -/
def Obligations.FlagsRegisterImage : Prop :=
  (∀ s : State, s.flagsReg.getLsbD 0 = s.a4b ∧ s.flagsReg.getLsbD 1 = s.qpiEn ∧ s.flagsReg.getLsbD 2 = s.dtrEn ∧
    s.flagsReg.extractLsb' 3 5 = 0#5) ∧
  (∀ (s : State) (v : Word), regValue 0x18 s = s.flagsReg.setWidth 32 ∧ regWrite 0x18 v s = .next s) ∧
  (∀ (i : Instr) (s t : State) (f : Sys2Proof.Flag), exec i s = .next t → t.flag f ≠ s.flag f → i = writesFlag f (t.flag f))

/-- O8, R40. Bits 1:0 of TMODE are 00, 01 or 10 for one, two or four lines (so never 11), bit 2 is 1 for double rate,
bit 3 is 1 for FROM_CHIP, bits 7:4 are 0, as in bits 3:0 of a phase descriptor word of the same mode. -/
def Obligations.TmodeRegisterImage : Prop :=
  ∀ s : State,
    (s.tmodeReg.extractLsb' 0 2 = match s.tm.lines with
      | .l1 => 0#2
      | .l2 => 1#2
      | .l4 => 2#2) ∧
    (s.tmodeReg.getLsbD 2 = true ↔ s.tm.rate = .dtr) ∧ (s.tmodeReg.getLsbD 3 = true ↔ s.tm.dir = .fromChip) ∧
    s.tmodeReg.extractLsb' 4 4 = 0#4 ∧ s.tmodeReg.extractLsb' 0 2 ≠ 3#2 ∧
    ∀ pd : PD, pd.lines = s.tm.lines → pd.rate = s.tm.rate → pd.dir = s.tm.dir →
      (encodePD pd).extractLsb' 0 4 = s.tmodeReg.extractLsb' 0 4

/-- O9, R37, R21, R23, R24, R26, R34, R38, R39, R40. A read answers with the value of the offset: CMD, ADDR, LEN, ARG,
ADDR2, STATUS, FLAGS, TMODE, CKSUM, LASTSR and RXCOUNT at their offsets, 0 at an offset not listed; it changes
nothing but the log of values read. RXDATA answers the oldest unread byte and pops it. With nothing unread RXDATA,
and always TXDATA, which is write-only, answer a value left free and change no register (logs 13 and 18). Writes
reach ADDR, LEN, ARG, ADDR2 and push TXDATA; a write to any other offset but CMD changes nothing. That a register
narrower than the value written keeps its low bits, and that an offset inside a register reads 0 and ignores writes,
is the model's choice (log 19); that the operand registers keep the low bits of a width the configuration gives, all
32 by default, is too (log 38). -/
def Obligations.RegisterImageReadsAndWrites : Prop :=
  (∀ s : State, regValue 0x00 s = s.cmd.setWidth 32 ∧ regValue 0x04 s = s.addr ∧ regValue 0x08 s = s.len ∧
    regValue 0x0C s = s.arg.setWidth 32 ∧ regValue 0x10 s = s.addr2 ∧ regValue 0x14 s = s.statusReg.setWidth 32 ∧
    regValue 0x18 s = s.flagsReg.setWidth 32 ∧ regValue 0x1C s = s.tmodeReg.setWidth 32 ∧
    regValue 0x20 s = s.cksum ∧ regValue 0x24 s = s.lastSr.setWidth 32 ∧ regValue 0x30 s = BitVec.ofNat 32 s.rx.length) ∧
  (∀ (s : State) (offset : Nat),
    offset ∉ [0x00, 0x04, 0x08, 0x0C, 0x10, 0x14, 0x18, 0x1C, 0x20, 0x24, 0x28, 0x2C, 0x30] → regValue offset s = 0) ∧
  (∀ (s : State) (offset : Nat), offset ≠ 0x28 → offset ≠ 0x2C →
    regRead offset s = { s with busOut := s.busOut ++ [regValue offset s] }) ∧
  (∀ (s : State) (b : Byte), s.rx[s.rxRead]? = some b →
    regRead 0x2C s = { s with rxRead := s.rxRead + 1, busOut := s.busOut ++ [b.setWidth 32] }) ∧
  (∀ s : State, s.rx.length ≤ s.rxRead → ∃ v : Byte,
    regRead 0x2C s = { s with freeCount := s.freeCount + 1, busOut := s.busOut ++ [v.setWidth 32] }) ∧
  (∀ s : State, ∃ v : Byte,
    regRead 0x28 s = { s with freeCount := s.freeCount + 1, busOut := s.busOut ++ [v.setWidth 32] }) ∧
  (∀ (s : State) (v : Word), regWrite 0x04 v s = .next { s with addr := s.cfg.operand v } ∧
    regWrite 0x08 v s = .next { s with len := s.cfg.operand v } ∧ regWrite 0x0C v s = .next { s with arg := v.setWidth 8 } ∧
    regWrite 0x10 v s = .next { s with addr2 := s.cfg.operand v } ∧
    regWrite 0x28 v s = .next { s with txFifo := s.txFifo ++ [v.setWidth 8] }) ∧
  (∀ (c : Cfg) (v : Word), (c.operand v).toNat = v.toNat % 2 ^ c.operandBits ∧ (c.operandBits = 32 → c.operand v = v)) ∧
  (∀ (s : State) (v : Word) (offset : Nat), offset ∉ [0x00, 0x04, 0x08, 0x0C, 0x10, 0x28] →
    regWrite offset v s = .next s)

/-- O10, R26. With RUN = 0, whatever code is written to CMD, CMD holds it afterwards, and a code of the table runs its
command. That a write while RUN = 1 is ignored is the model's choice (log 9). -/
def Obligations.CommandRegisterHoldsTheCode : Prop :=
  (∀ (code : Byte) (s t : State), s.run = false → writeCmd code s = .next t → t.cmd = code) ∧
  (∀ (i : Instr) (s : State), s.run = false → writeCmd (encode i) s = exec i s) ∧
  (∀ (code : Byte) (s : State), s.run = true → writeCmd code s = .next s)

/-- O11, R351. After reset POS is (IDLE, 0), RUN, DONE, A4B, QPI_EN, DTR_EN, CKSUM and RXCOUNT are 0, RESULT is OK, TM
is (L1, SDR, TO_CHIP), RX is empty and CMD is 0x00. Of the registers the rule calls unspecified nothing is said (the
values the model gives them are its choice, log 4). -/
def Obligations.ResetState : Prop :=
  State.reset.pos = { st := .idle, i := 0 } ∧ State.reset.run = false ∧ State.reset.done = false ∧
  State.reset.result = .ok ∧ State.reset.a4b = false ∧ State.reset.qpiEn = false ∧ State.reset.dtrEn = false ∧
  State.reset.tm = { lines := .l1, rate := .sdr, dir := .toChip } ∧ State.reset.cksum = 0 ∧
  State.reset.rxCount = 0 ∧ State.reset.rx = [] ∧ State.reset.cmd = 0x00#8

/-- O12, R350, R353. When SEQ cannot move and the next act is a reset, one step gives the reset state, the running
command lost, with the parameters, the queues and logs of the other agents kept: in particular the trace is
unchanged. The model's choices in it: the act is taken only when SEQ cannot move (log 8); the queues and logs stay
(log 14); ADDR, ADDR2, LEN, ARG, LASTSR, N, OFF, REM and SRCI, which R351 leaves unspecified, are 0 (log 4); the
TXDATA FIFO is empty (log 35). -/
def Obligations.ResetActForgetsTheCommand : Prop :=
  ∀ (s : State) (rest : List EnvAct), s.canMove = false → s.env = .reset :: rest →
    step s = .next { State.reset with
      cfg := s.cfg, env := rest, xp := s.xp, trace := s.trace, busOut := s.busOut, freeCount := s.freeCount }

/-- O13, R26, R91. With the block idle and SEQ unable to move, when the next act of HOST writes to CMD a word whose low
byte decodes to the command i, one step is exec of i at the state with that act taken. That a word wider than the
command register counts by its low byte is the model's choice (log 19), and so is that SEQ moves first (log 8). -/
def Obligations.StepRunsTheDecodedCommand : Prop :=
  ∀ (s : State) (w : Word) (i : Instr) (rest : List EnvAct), s.run = false → s.canMove = false →
    s.env = .write 0x00 w :: rest → decode [w.setWidth 8] = .ok (i, []) → step s = exec i { s with env := rest }

/-- O14, R320, R326. Every step and every command's execution gives a next state, and when SEQ cannot move and no act is
waiting nothing can move until another agent does (R326); that the step then answers the same state is the model's
choice (log 33). -/
def Obligations.EveryStepAnswers : Prop :=
  (∀ s : State, ∃ t, step s = .next t) ∧ (∀ (i : Instr) (s : State), ∃ t, exec i s = .next t) ∧
  (∀ s : State, s.canMove = false → s.env = [] → step s = .next s)

/-- O15, R163. For every result and state, finish leaves RESULT that result, RUN = 0, DONE = 1, POS = (IDLE, 0), and RX,
RXCOUNT and CKSUM as they were. -/
def Obligations.FinishEndsTheCommand : Prop :=
  ∀ (r : Result) (s : State), (finish r s).result = r ∧ (finish r s).run = false ∧ (finish r s).done = true ∧
    (finish r s).pos = { st := .idle, i := 0 } ∧ (finish r s).rx = s.rx ∧ (finish r s).rxCount = s.rxCount ∧
    (finish r s).cksum = s.cksum

/-- O16, R153, R21, R77. A command issued from idle keeps the working copies of ADDR, ADDR2, LEN, ARG, A4B and QPI_EN it
took at its start; (that they still hold them after the command has ended is the model's choice, log 5: U8 gives
them any value there); CKSUM, RX and RXCOUNT start at 0, empty and 0; a run against any answers commutes with any
change of the four operand registers; and a change of the flags changes neither the calls made nor the result, RX,
CKSUM, TM or what is left to do. -/
def Obligations.OperandsAreSampledOnce : Prop :=
  (∀ (i : Instr) (s t : State), s.run = false → exec i s = .next t → t.smp = s.sample i) ∧
  (∀ (i : Instr) (s : State), (sampleAndClear i s).smp = s.sample i ∧ (sampleAndClear i s).cksum = 0 ∧
    (sampleAndClear i s).rx = [] ∧ (sampleAndClear i s).rxCount = 0) ∧
  (∀ (as : List Answer) (s : State) (a a2 l : Word) (g : Byte),
    drive as { s with addr := a, addr2 := a2, len := l, arg := g } =
      { drive as s with addr := a, addr2 := a2, len := l, arg := g }) ∧
  (∀ (as : List Answer) (s : State) (x y z : Bool),
    let t := drive as { s with a4b := x, qpiEn := y, dtrEn := z }
    t.trace = (drive as s).trace ∧ t.result = (drive as s).result ∧ t.rx = (drive as s).rx ∧
    t.cksum = (drive as s).cksum ∧ t.tm = (drive as s).tm ∧ t.todo = (drive as s).todo)

/-- O17, R67, R97. With n = ADDR_BYTES(A4B), by default 3 when A4B is 0 and 4 when it is 1, an A4B-sized address is n
bytes, byte i being ADDR[8(n-i)-1 : 8(n-i-1)]; two addresses (CHECKSUM_CALC) are the n bytes of ADDR and then the n
bytes of ADDR2 in the same order; a ZERO3 address is three bytes 0x00 whatever A4B; no address is no byte. -/
def Obligations.AddressBytesMostSignificantFirst : Prop :=
  (∀ (c : Cfg) (a4b : Bool) (a a2 : Word), (addrPhaseBytes c .a4bSized a4b a a2).length = addrCount c a4b ∧
    (addrPhaseBytes c .a4bSizedTwice a4b a a2).length = 2 * addrCount c a4b ∧
    ∀ i, i < addrCount c a4b →
      let byteOfAddr (x : Word) : Byte := x.extractLsb' (8 * (addrCount c a4b - i - 1)) 8
      (addrPhaseBytes c .a4bSized a4b a a2)[i]? = some (byteOfAddr a) ∧
      (addrPhaseBytes c .a4bSizedTwice a4b a a2)[i]? = some (byteOfAddr a) ∧
      (addrPhaseBytes c .a4bSizedTwice a4b a a2)[addrCount c a4b + i]? = some (byteOfAddr a2)) ∧
  (addrCount Cfg.default false = 3 ∧ addrCount Cfg.default true = 4) ∧
  (∀ (c : Cfg) (a4b : Bool) (a a2 : Word), addrPhaseBytes c .zero3 a4b a a2 = [0x00#8, 0x00#8, 0x00#8] ∧
    addrPhaseBytes c .noAddr a4b a a2 = [])

/-- O18, R99, R100, R103, R140. With A4B = 0 the opcode is OPC[c]; with A4B = 1 it is OPC4[c], which is OPC[c] where the
configuration gives none; an opcode the configuration does not list is the default of R103's table, a byte from
general knowledge (log 21); with QPI_EN = 1 a phase whose descriptor names one line is performed on four, every
other phase on the lines it names, and rates are unchanged. -/
def Obligations.ModeFlagsChangeTheWire : Prop :=
  (∀ (c : Cfg) (o : Opc) (b : Byte), c.opc.lookup o = some b → c.opcode false o = b ∧
    (c.opc4.lookup o = none → c.opcode true o = b) ∧ ∀ b4, c.opc4.lookup o = some b4 → c.opcode true o = b4) ∧
  (∀ (c : Cfg) (o : Opc) (b : Byte), c.opc.lookup o = none → defaultOpcodes.lookup o = some b → c.opcode false o = b ∧
    (c.opc4.lookup o = none → c.opcode true o = b)) ∧
  (∀ (l : Lines) (q : Bool), eff l q = if q = true ∧ l = .l1 then .l4 else l) ∧
  (∀ (m : Width) (l : Lines) (r : Rate) (d : Dir) (q last off : Bool),
    (pdOpc q off).lines = eff .l1 q ∧ (pdOpc q off).rate = .sdr ∧
    (pdAdr m q).lines = eff m.lines q ∧ (pdAdr m q).rate = m.rate ∧
    (pdDmy l r d q).lines = eff l q ∧ (pdDmy l r d q).rate = r ∧
    (pdRx m q last).lines = eff m.lines q ∧ (pdRx m q last).rate = m.rate ∧
    (pdRxi q).lines = eff .l1 q ∧ (pdRxi q).rate = .sdr ∧
    (pdTx m q last).lines = eff m.lines q ∧ (pdTx m q last).rate = m.rate)

/-- O19, R126, R127, R132, R137, R139, R164. Normalisation sets the direction of a one-line mode to TO_CHIP and changes
no other mode. For the phase SEQ is at, and for a transfer of a dummy preset: if its normalised mode is TM the next
call is the transfer, otherwise it is configure with that mode; for a MODE_OFF action there is no call if TM is (L1,
SDR, TO_CHIP) and otherwise configure with that mode. A configure answered Ok sets TM to its mode and SEQ goes on
with the same item; answered Error it leaves TM and abandons the bracket with the error of the phase's kind. That
POS stays where it was on the abort path is the model's choice (log 15). -/
def Obligations.EnsureModeConfiguresOnlyOnChange : Prop :=
  (∀ m : Mode, m.norm = if m.lines = .l1 then { m with dir := .toChip } else m) ∧
  (∀ (s : State) (op : Op) (rest : List Op) (pd : PD) (b : Byte), s.todo = op :: rest → opPhase s op = some (pd, b) →
    let want := Mode.norm { lines := pd.lines, rate := pd.rate, dir := pd.dir }
    pendingCall s = some (if want = s.tm then .transfer b pd.actions.wait else .configure want)) ∧
  (∀ (s : State) (pos : Pos) (m : Mode) (ms : List Mode) (rest : List Op), s.todo = .preset pos (m :: ms) :: rest →
    pendingCall s = some (if m.norm = s.tm then .transfer s.cfg.dummyByte true else .configure m.norm)) ∧
  (∀ (s : State) (pos : Pos) (rest : List Op),
    (s.tm = narrowMode → settle (.modeOff pos :: rest) s = settle rest s) ∧
    (s.tm ≠ narrowMode → pendingCall (settle (.modeOff pos :: rest) s) = some (.configure narrowMode))) ∧
  (∀ (s : State) (op : Op) (rest : List Op) (want : Mode) (a : Answer), s.todo = op :: rest → due op = true →
    (opPhase s op).isSome = true →
    (a.call = .ok → answerCall (.configure want) a s =
      { s with tm := want, trace := s.trace ++ [{ call := .configure want, reply := .call .ok }] }) ∧
    (a.call = .error → answerCall (.configure want) a s =
      { s with todo := [.abort (failKind (opPos op).st) s.pos],
               trace := s.trace ++ [{ call := .configure want, reply := .call .error }] })) ∧
  (∀ (s : State) (pos : Pos) (rest : List Op) (want : Mode) (a : Answer),
    (∃ m ms, s.todo = .preset pos (m :: ms) :: rest) ∨ s.todo = .modeOff pos :: rest →
    (a.call = .ok → (answerCall (.configure want) a s).tm = want) ∧
    (a.call = .error → (answerCall (.configure want) a s).tm = s.tm ∧
      (answerCall (.configure want) a s).todo = [.abort (failKind pos.st) s.pos]))

/-- O20, R134. RXpush appends the byte, raises RXCOUNT by one and sets CKSUM to the sum modulo 2^CKSUM_BITS, changing
nothing else; the transfer of a phase with CAPTURE pushes the byte received; of a phase without it leaves RX and
CKSUM as they were. -/
def Obligations.CaptureFillsRxAndChecksum : Prop :=
  (∀ (b : Byte) (s : State), rxPush b s =
    { s with rx := s.rx ++ [b], cksum := BitVec.ofNat 32 ((s.cksum.toNat + b.toNat) % 2 ^ s.cfg.cksumBits) } ∧
    (rxPush b s).rxCount = s.rxCount + 1) ∧
  (∀ (m : Width) (i n : Nat) (acts : Actions) (b : Byte) (s : State), acts.capture = true →
    accept (.rx m i n) acts (.done b) s = rxPush b s) ∧
  (∀ (op : Op) (acts : Actions) (a : XferAns) (s : State), acts.capture = false →
    (accept op acts a s).rx = s.rx ∧ (accept op acts a s).cksum = s.cksum)

/-- O21, R136, R159. At a transmitted data phase whose mode is latched the call is the transfer of its byte, with WAIT
only on the last; answered NotAccepted it changes nothing but the trace, so the same call comes again; answered Done
on a byte that is not the last it moves to the next index, and takes the byte out of the TX FIFO if it came from
there. -/
def Obligations.RefusedDataByteIsSentAgain : Prop :=
  ∀ (s : State) (m : Width) (i n : Nat) (src : TxSrc) (rest : List Op) (b : Byte) (a : Answer),
    s.todo = .tx m i n src :: rest → i < n → txByte s src = some b →
    s.tm = (pdTx m s.smp.qpi (i + 1 == n)).want →
    let k : Call := .transfer b (i + 1 == n)
    let e : Event := { call := k, reply := .xfer a.xfer }
    pendingCall s = some k ∧
    (a.xfer = .notAccepted → answerCall k a s = { s with trace := s.trace ++ [e] }) ∧
    (∀ r, a.xfer = .done r → i + 1 < n →
      answerCall k a s = { s with
        todo := .tx m (i + 1) n src :: rest, trace := s.trace ++ [e]
        txFifo := if src = .fifo then s.txFifo.tail else s.txFifo
        txUsed := if src = .fifo then s.txUsed + 1 else s.txUsed })

/-- O22, R25, R326, R373. With the TX FIFO empty at a transmitted data phase no call is pending and a run against any
answers uses none; after a write to TXDATA the call of that phase, carrying the byte written, is pending. That the
phase's configure waits for the byte too is deduced (log 12); that the byte pushed is the low byte of the word
written is the model's choice (log 19). -/
def Obligations.HoldsUntilHostSuppliesTheByte : Prop :=
  ∀ (s : State) (m : Width) (i n : Nat) (rest : List Op), s.todo = .tx m i n .fifo :: rest → s.txFifo = [] →
    pendingCall s = none ∧ (∀ as, drive as s = { s with xp := as }) ∧
    ∀ v : Word, ∃ t, regWrite 0x28 v s = .next t ∧
      pendingCall t = some (if s.tm = (pdTx m s.smp.qpi (i + 1 == n)).want then .transfer (v.setWidth 8) (i + 1 == n)
        else .configure (pdTx m s.smp.qpi (i + 1 == n)).want)

/-- O23, R132, R135, R139, R164. While a preset has transfers left in the latched mode the call is a transfer of
DUMMY_BYTE with WAIT; accepted, it changes neither RX, CKSUM nor TM and leaves the preset's other transfers, and
after the last of them SEQ goes on with what follows; answered otherwise, the bracket is abandoned with
TransportCommandFailed. The default presets are 6, 4 and 7 transfers in (L4, DTR, FROM_CHIP): figures the spec
itself gives from general knowledge (log 21). That POS stays where it was on the abort path is the model's choice
(log 15). -/
def Obligations.PresetTransfersAreDiscarded : Prop :=
  (∀ (s : State) (pos : Pos) (m m2 : Mode) (ms : List Mode) (rest : List Op) (a : Answer),
    s.todo = .preset pos (m :: m2 :: ms) :: rest → pos.st = .dmy → s.tm = m.norm →
    let k : Call := .transfer s.cfg.dummyByte true
    let e : Event := { call := k, reply := .xfer a.xfer }
    pendingCall s = some k ∧
    (∀ b, a.xfer = .done b → answerCall k a s =
      { s with todo := .preset pos (m2 :: ms) :: rest, trace := s.trace ++ [e] }) ∧
    ((∀ b, a.xfer ≠ .done b) → answerCall k a s =
      { s with todo := [.abort .transportCommandFailed s.pos], trace := s.trace ++ [e] })) ∧
  (∀ (s : State) (pos : Pos) (m : Mode) (rest : List Op) (a : Answer),
    s.todo = .preset pos [m] :: rest → pos.st = .dmy → s.tm = m.norm →
    let k : Call := .transfer s.cfg.dummyByte true
    let e : Event := { call := k, reply := .xfer a.xfer }
    pendingCall s = some k ∧
    (∀ b, a.xfer = .done b → answerCall k a s = settle rest { s with trace := s.trace ++ [e] }) ∧
    ((∀ b, a.xfer ≠ .done b) → answerCall k a s =
      { s with todo := [.abort .transportCommandFailed s.pos], trace := s.trace ++ [e] })) ∧
  (Cfg.default.dummyModes .dp1 = List.replicate 6 { lines := .l4, rate := .dtr, dir := .fromChip } ∧
    Cfg.default.dummyModes .dp2 = List.replicate 4 { lines := .l4, rate := .dtr, dir := .fromChip } ∧
    Cfg.default.dummyModes .dp3 = List.replicate 7 { lines := .l4, rate := .dtr, dir := .fromChip })

/-- O24, R183, R184, R185, R297, R95. From idle, with good operands and answers that meet its calls, each named command
ends in exactly the state of its rule: one bracket with the register's opcode and one captured data phase; RX that
byte, CKSUM its value, RESULT OK, LASTSR not written. The equation is for the whole state, so it gives the frame:
operand registers, the flags the command does not name, WRITE's working registers, the queues and logs are as
State.completed says, most of them unchanged; what N, the byte kept of a status read and WRITE's working registers
hold after the end is the model's choice (log 5). It holds in every addressing mode, transport mode, configuration
and POLL_IMPL. -/
def Obligations.StatusReadsComplete : Prop :=
  Completes .readSr1 ∧ Completes .readSr2 ∧ Completes .readSr3 ∧ Completes .getStatus

/-- O25, R236, R237, R238, R296. From idle, with good operands and answers that meet its calls, each named command ends
in exactly the state of its rule: one bracket with its opcode, its zero address or dummy bytes, and its captured
data phases; RX those bytes, CKSUM their sum. A bracket with a configured length of 0 has no data phase. Where such
a bracket ends in an address or dummy phase that its configured shape makes wide, that the phase returns the mode is
deduced, from R33, R137 and decision D38, and not written in R140 (log 17). The equation is for the whole state, so
it gives the frame: operand registers, the flags the command does not name, WRITE's working registers, the queues
and logs are as State.completed says, most of them unchanged; what N, the byte kept of a status read and WRITE's
working registers hold after the end is the model's choice (log 5). It holds in every addressing mode, transport
mode, configuration and POLL_IMPL. -/
def Obligations.IdentificationReadsComplete : Prop :=
  Completes .readJedecId ∧ Completes .readMfrId ∧ Completes .readUniqueId ∧ Completes .getId

/-- O26, R200, R201, R202, R203, R204, R205, R206, R207, R208, R209, R210, R291. From idle, with good operands and
answers that meet its calls, each named command ends in exactly the state of its rule: opcode, 3 or 4 address bytes,
the dummy items and LEN captured data phases in the modes of the command's shape; READ is the read command the flags
choose; RX the bytes, CKSUM their sum, TM that of the last configure: with QPI_EN = 0 that is the return to (L1,
SDR, TO_CHIP) where the data phases were wider (O46), with QPI_EN = 1 nothing is restored and TM stays that of the
data phases. The equation is for the whole state, so it gives the frame: operand registers, the flags the command
does not name, WRITE's working registers, the queues and logs are as State.completed says, most of them unchanged;
what N, the byte kept of a status read and WRITE's working registers hold after the end is the model's choice (log
5). It holds in every addressing mode, transport mode, configuration and POLL_IMPL. -/
def Obligations.ReadCommandsComplete : Prop :=
  Completes .readData ∧ Completes .fastRead ∧ Completes .readDualOut ∧ Completes .readDualIo ∧
  Completes .readQuadOut ∧ Completes .readQuadIo ∧ Completes .readDtr ∧ Completes .readDualIoDtr ∧
  Completes .readQuadIoDtr ∧ Completes .read

/-- O27, R239, R240, R241, R242. From idle, with good operands and answers that meet its calls, each named command ends
in exactly the state of its rule: the bracket of its rule and, for the two that change the chip, the Busy/Ready wait
of its class. SEC_ERASE has a bracket without data phases. Where such a bracket ends in an address or dummy phase
that its configured shape makes wide, that the phase returns the mode is deduced, from R33, R137 and decision D38,
and not written in R140 (log 17). The equation is for the whole state, so it gives the frame: operand registers, the
flags the command does not name, WRITE's working registers, the queues and logs are as State.completed says, most of
them unchanged; what N, the byte kept of a status read and WRITE's working registers hold after the end is the
model's choice (log 5). It holds in every addressing mode, transport mode, configuration and POLL_IMPL. -/
def Obligations.SecurityRegisterCommandsComplete : Prop :=
  Completes .secRead ∧ Completes .secProgram ∧ Completes .secErase

/-- O28, R275, R276, R277, R278, R279. From idle, with good operands and answers that meet its calls, each named command
ends in exactly the state of its rule: the bracket of its rule; only PB_PROGRAM waits. The opcode bytes are
parameters, so this holds whatever they are. PB_CLEAR, PB_PROGRAM and PB_LOAD have a bracket without data phases.
Where such a bracket ends in an address or dummy phase that its configured shape makes wide, that the phase returns
the mode is deduced, from R33, R137 and decision D38, and not written in R140 (log 17). The equation is for the
whole state, so it gives the frame: operand registers, the flags the command does not name, WRITE's working
registers, the queues and logs are as State.completed says, most of them unchanged; what N, the byte kept of a
status read and WRITE's working registers hold after the end is the model's choice (log 5). It holds in every
addressing mode, transport mode, configuration and POLL_IMPL. -/
def Obligations.PageBufferCommandsComplete : Prop :=
  Completes .pbClear ∧ Completes .pbWrite ∧ Completes .pbRead ∧ Completes .pbProgram ∧ Completes .pbLoad

/-- O29, R271, R272, R273. From idle, with good operands and answers that meet its calls, each named command ends in
exactly the state of its rule: CHECKSUM_CALC sends ADDR and then ADDR2 and waits; CHECKSUM_READ captures CHK_LEN
bytes in the order received. CHECKSUM_CALC has a bracket without data phases, and CHECKSUM_READ too where CHK_LEN is
configured as 0. Where such a bracket ends in an address or dummy phase that its configured shape makes wide, that
the phase returns the mode is deduced, from R33, R137 and decision D38, and not written in R140 (log 17). The
equation is for the whole state, so it gives the frame: operand registers, the flags the command does not name,
WRITE's working registers, the queues and logs are as State.completed says, most of them unchanged; what N, the byte
kept of a status read and WRITE's working registers hold after the end is the model's choice (log 5). It holds in
every addressing mode, transport mode, configuration and POLL_IMPL. -/
def Obligations.ChecksumRangeCommandsComplete : Prop :=
  Completes .checksumCalc ∧ Completes .checksumRead

/-- O30, R181, R182, R170. From idle, with good operands and answers that meet its calls, each named command ends in
exactly the state of its rule: one opcode bracket; WRITE_ENABLE then reads status register 1, which shows WEL = 1,
and LASTSR holds it. Both have a bracket without data phases. Where such a bracket ends in an address or dummy phase
that its configured shape makes wide, that the phase returns the mode is deduced, from R33, R137 and decision D38,
and not written in R140 (log 17). The equation is for the whole state, so it gives the frame: operand registers, the
flags the command does not name, WRITE's working registers, the queues and logs are as State.completed says, most of
them unchanged; what N, the byte kept of a status read and WRITE's working registers hold after the end is the
model's choice (log 5). It holds in every addressing mode, transport mode, configuration and POLL_IMPL. -/
def Obligations.WriteEnableAndDisableComplete : Prop :=
  Completes .writeEnable ∧ Completes .writeDisable

/-- O31, R189, R171. From idle, with good operands and answers that meet its calls, each named command ends in exactly
the state of its rule: no bracket of its own, a status read in the class ARG names; LASTSR holds the byte. The
equation is for the whole state, so it gives the frame: operand registers, the flags the command does not name,
WRITE's working registers, the queues and logs are as State.completed says, most of them unchanged; what N, the byte
kept of a status read and WRITE's working registers hold after the end is the model's choice (log 5). It holds in
every addressing mode, transport mode, configuration and POLL_IMPL. -/
def Obligations.WaitReadyCompletes : Prop :=
  Completes .waitReady

/-- O32, R186, R187, R188. From idle, with good operands and answers that meet its calls, each named command ends in
exactly the state of its rule: the register's opcode, one transmitted data phase carrying ARG with WAIT, and the
Busy/Ready wait. The equation is for the whole state, so it gives the frame: operand registers, the flags the
command does not name, WRITE's working registers, the queues and logs are as State.completed says, most of them
unchanged; what N, the byte kept of a status read and WRITE's working registers hold after the end is the model's
choice (log 5). It holds in every addressing mode, transport mode, configuration and POLL_IMPL. -/
def Obligations.StatusWritesComplete : Prop :=
  Completes .writeSr1 ∧ Completes .writeSr2 ∧ Completes .writeSr3

/-- O33, R222, R223, R224, R225, R295. From idle, with good operands and answers that meet its calls, each named command
ends in exactly the state of its rule: opcode and address (none for the whole chip) and the wait of the unit's
class; ERASE first sends the write-enable and its wait, and its unit is that of ARG. All have brackets without data
phases. Where such a bracket ends in an address or dummy phase that its configured shape makes wide, that the phase
returns the mode is deduced, from R33, R137 and decision D38, and not written in R140 (log 17). The equation is for
the whole state, so it gives the frame: operand registers, the flags the command does not name, WRITE's working
registers, the queues and logs are as State.completed says, most of them unchanged; what N, the byte kept of a
status read and WRITE's working registers hold after the end is the model's choice (log 5). It holds in every
addressing mode, transport mode, configuration and POLL_IMPL. -/
def Obligations.EraseCommandsComplete : Prop :=
  Completes .sectorErase ∧ Completes .block32Erase ∧ Completes .block64Erase ∧ Completes .chipErase ∧
  Completes .erase

/-- O34, R221. From idle, with good operands and answers that meet its calls, each named command ends in exactly the
state of its rule: opcode, address, LEN transmitted data phases (WAIT on the last only) and the Busy/Ready wait; no
page boundary is checked. The equation is for the whole state, so it gives the frame: operand registers, the flags
the command does not name, WRITE's working registers, the queues and logs are as State.completed says, most of them
unchanged; what N, the byte kept of a status read and WRITE's working registers hold after the end is the model's
choice (log 5). It holds in every addressing mode, transport mode, configuration and POLL_IMPL. -/
def Obligations.PageProgramCompletes : Prop :=
  Completes .pageProgram

/-- O35, R251, R252, R258. From idle, with good operands and answers that meet its calls, each named command ends in
exactly the state of its rule: one opcode bracket, then the flag; also when the flag has that value already. Both
have a bracket without data phases. Where such a bracket ends in an address or dummy phase that its configured shape
makes wide, that the phase returns the mode is deduced, from R33, R137 and decision D38, and not written in R140
(log 17). The equation is for the whole state, so it gives the frame: operand registers, the flags the command does
not name, WRITE's working registers, the queues and logs are as State.completed says, most of them unchanged; what
N, the byte kept of a status read and WRITE's working registers hold after the end is the model's choice (log 5). It
holds in every addressing mode, transport mode, configuration and POLL_IMPL. -/
def Obligations.AddressModeSwitchesComplete : Prop :=
  Completes .enter4b ∧ Completes .exit4b

/-- O36, R253, R254. From idle, with good operands and answers that meet its calls, each named command ends in exactly
the state of its rule: ENTER_QPI reads status register 2 without capturing it, then sends its opcode; EXIT_QPI sends
its opcode in the sampled mode and, from quad mode, returns the transport to (L1, SDR, TO_CHIP). The opcode brackets
of both have no data phase. Where such a bracket ends in an address or dummy phase that its configured shape makes
wide, that the phase returns the mode is deduced, from R33, R137 and decision D38, and not written in R140 (log 17).
So is that a configured last dummy phase of EXIT_QPI returns the mode after its opcode phase, the one that R254
names, has done so (log 17). The equation is for the whole state, so it gives the frame: operand registers, the
flags the command does not name, WRITE's working registers, the queues and logs are as State.completed says, most of
them unchanged; what N, the byte kept of a status read and WRITE's working registers hold after the end is the
model's choice (log 5). It holds in every addressing mode, transport mode, configuration and POLL_IMPL. -/
def Obligations.QuadModeSwitchesComplete : Prop :=
  Completes .enterQpi ∧ Completes .exitQpi

/-- O37, R255, R256. From idle, with good operands and answers that meet its calls, each named command ends in exactly
the state of its rule: no call at all; CKSUM 0, RX empty, DTR_EN set to 1 or 0, RESULT OK. The equation is for the
whole state, so it gives the frame: operand registers, the flags the command does not name, WRITE's working
registers, the queues and logs are as State.completed says, most of them unchanged; what N, the byte kept of a
status read and WRITE's working registers hold after the end is the model's choice (log 5). It holds in every
addressing mode, transport mode, configuration and POLL_IMPL. -/
def Obligations.DoubleRateSwitchesComplete : Prop :=
  Completes .dtrEnable ∧ Completes .dtrDisable

/-- O38, R257. From idle, with good operands and answers that meet its calls, each named command ends in exactly the
state of its rule: the reset-enable bracket and the reset bracket, no wait, every flag as before. Both brackets are
without data phases. Where such a bracket ends in an address or dummy phase that its configured shape makes wide,
that the phase returns the mode is deduced, from R33, R137 and decision D38, and not written in R140 (log 17). The
equation is for the whole state, so it gives the frame: operand registers, the flags the command does not name,
WRITE's working registers, the queues and logs are as State.completed says, most of them unchanged; what N, the byte
kept of a status read and WRITE's working registers hold after the end is the model's choice (log 5). It holds in
every addressing mode, transport mode, configuration and POLL_IMPL. -/
def Obligations.SoftResetCompletes : Prop :=
  Completes .softReset

/-- O39, R292, R293, R298. From idle, with good operands and answers that meet its calls, each named command ends in
exactly the state of its rule: for each chunk of the request in turn, the write-enable bracket and wait, a page
program of the chunk's bytes at the chunk's address, and the Busy/Ready wait; OFF ends at ADDR + LEN, REM at 0, SRCI
at LEN, and the TX FIFO is empty. The write-enable bracket of each chunk is without data phases. Where such a
bracket ends in an address or dummy phase that its configured shape makes wide, that the phase returns the mode is
deduced, from R33, R137 and decision D38, and not written in R140 (log 17). The equation is for the whole state, so
it gives the frame: operand registers, the flags the command does not name, WRITE's working registers, the queues
and logs are as State.completed says, most of them unchanged; what N, the byte kept of a status read and WRITE's
working registers hold after the end is the model's choice (log 5). It holds in every addressing mode, transport
mode, configuration and POLL_IMPL. -/
def Obligations.WriteCompletesAsItsChunks : Prop :=
  Completes .write

/-- O40, R311, R312, R316, R317, R318, R319, R164, R166, R139, R136. For every command, however many reads its waits
take and however often each byte it sends is declined, and every split of the calls so made: when the calls before
the split are met and the next one is refused (Error, or NotAccepted outside a transmitted data phase), the command
ends with TransportDataFailed if the call belongs to a data phase and TransportCommandFailed otherwise; the only
further call is select_high, made exactly when a bracket is open, its answer ignored; flags are as before, TM is
that of the last successful configure, RX and CKSUM hold the bytes captured before, LASTSR the last status byte of a
closed poll read. And in any state whatever: a refused configure or transfer leaves only the abort path, with the
error of the phase's kind, and POS where it was until the abort path's select_high is answered, which inside a poll
read is POLL; a refused select_low, select_high or auto_poll ends the command with TransportCommandFailed; the abort
path's select_high ends it with the error taken, whatever the answer. That POS stays on the abort path is the
model's choice (log 15); that the abort path's select_high waits for its answer and uses it up is deduced (log 34).
The calls of a command include those of its brackets without data phases. Where such a bracket ends in an address or
dummy phase that its configured shape makes wide, that the phase returns the mode is deduced, from R33, R137 and
decision D38, and not written in R140 (log 17). -/
def Obligations.FailuresEndTheCommandAtOnce : Prop :=
  (∀ i : Instr, FailsAtFirstRefusal i) ∧
  (∀ (s : State) (op : Op) (rest : List Op) (k : Call) (a : Answer), s.todo = op :: rest → due op = true →
    (∀ e pos, op ≠ .abort e pos) → pendingCall s = some k →
    let w : WireCall := { call := k, role := .plain, retry := (opPhase s op).any fun x => x.1.actions.rsucc }
    let s1 : State := { s with trace := s.trace ++ [{ call := k, reply := replyTo k a }] }
    refuses w a = true →
    answerCall k a s =
        (if leavesOpen w = true then { s1 with todo := [.abort (failKind (opPos op).st) s.pos] }
        else finish .transportCommandFailed s1) ∧
      (leavesOpen w = true → (answerCall k a s).pos = s.pos)) ∧
  (∀ (s : State) (e : Result) (pos : Pos) (rest : List Op) (a : Answer), s.todo = .abort e pos :: rest →
    pendingCall s = some .selectHigh ∧
    answerCall .selectHigh a s =
      finish e { s with trace := s.trace ++ [{ call := .selectHigh, reply := .call a.call }] })

/-- O41, R313, R71, R101. From idle: in a case of the list the command ends at once with InvalidArgument, no call made
and no answer used, flags, TM and LASTSR as before, RX empty, CKSUM 0; in no other case does a command that has
ended show InvalidArgument; a code outside the table is refused always. The list reads PAGE_SIZE where R313 writes
256 (log 28, deduced), takes the sum ADDR + LEN of PB_WRITE and PB_READ without wrapping (log 27, deduced), and asks
the address width of the security commands and of PB_WRITE and PB_READ too, as R71 and D26 say of every address (log
36, deduced). -/
def Obligations.InvalidArgumentHasTheseCausesOnly : Prop :=
  (∀ (i : Instr) (s : State), s.run = false → illegal i s = true →
    ∃ t, exec i s = .next t ∧ t.cmd = encode i ∧ t.result = .invalidArgument ∧ t.run = false ∧ t.done = true ∧
      t.todo = [] ∧ t.trace = s.trace ∧ t.xp = s.xp ∧ t.a4b = s.a4b ∧ t.qpiEn = s.qpiEn ∧ t.dtrEn = s.dtrEn ∧
      t.tm = s.tm ∧ t.lastSr = s.lastSr ∧ t.rx = [] ∧ t.cksum = 0) ∧
  (∀ (i : Instr) (s t : State), s.run = false → illegal i s = false → exec i s = .next t → t.run = false →
    t.result ≠ .invalidArgument) ∧
  (∀ (code : Byte) (s : State), s.run = false → (∀ i, encode i ≠ code) →
    ∃ t, writeCmd code s = .next t ∧ t.result = .invalidArgument ∧ t.trace = s.trace)

/-- O42, R168, R169, R170, R174, R136, R159, R298. For every command with a trailing wait and POLL_IMPL = READS: when k
status reads, fewer than the budget, do not show the bit and the next does, the command ends OK after exactly k + 1
poll reads, LASTSR the last byte, N = k + 1. For every command, in both implementations of POLL_IMPL: however many
reads within the budget each of its waits takes (the two waits of every chunk of WRITE, both waits of ERASE, the
trailing wait of the others), and however often each transmitted data byte is answered NotAccepted, the command ends
OK having made exactly the calls this takes. The whole state is given: what N, the byte kept of a status read and
the working copies hold after the end is the model's choice (log 5), and that an assisted poll leaves N is deduced
(log 25). The calls of a command include those of its brackets without data phases. Where such a bracket ends in an
address or dummy phase that its configured shape makes wide, that the phase returns the mode is deduced, from R33,
R137 and decision D38, and not written in R140 (log 17). -/
def Obligations.WaitsReadUntilTheBitShows : Prop :=
  (∀ i : Instr, WaitsUntilReady i) ∧ (∀ i : Instr, CompletesHowever i)

/-- O43, R168, R172, R173, R175, R298, R314, R315, R319. For every command with a trailing wait and POLL_IMPL = READS:
when as many status reads as the budget of the wait's class do not show the bit, the command ends with the wait's
error, LASTSR the last byte read, every flag as before and no abort call; the whole state is given. For every wait
of every command, those inside WRITE and ERASE among them, with any number of reads in the waits before it and of
bytes sent again: the same, with TM, RX, CKSUM and the trace those of the calls made. With POLL_IMPL = ASSISTED: a
wait answered TimedOut(sr) ends the command with the wait's error and LASTSR = sr. What N, the byte kept of a status
read and the working copies hold after the end is the model's choice (log 5), and that the TX FIFO is emptied is
deduced (log 10). The calls before the wait include those of brackets without data phases. Where such a bracket ends
in an address or dummy phase that its configured shape makes wide, that the phase returns the mode is deduced, from
R33, R137 and decision D38, and not written in R140 (log 17). -/
def Obligations.WaitsTimeOutAfterTheBudget : Prop :=
  (∀ i : Instr, TimesOut i) ∧ (∀ i : Instr, AnyWaitTimesOut i) ∧ (∀ i : Instr, AnyAssistedWaitTimesOut i)

/-- O44, R253, R311. When the read of status register 2 shows QE = 0, ENTER_QPI ends with TransportCommandFailed having
made only that bracket's calls; QPI_EN is unchanged, RX empty, LASTSR not written. What the kept status byte and the
working copies hold after the end, which the equation for the whole state fixes, is the model's choice (log 5). -/
def Obligations.EnterQpiNeedsQuadEnable : Prop :=
  ∀ (s : State) (as rest : List Answer), s.run = false → s.xp = as ++ rest →
    let ws := status2Wire s.cfg (s.sample .enterQpi) .quadOff
    meets s.cfg (wireCalls s.cfg s.tm ws) as = true →
    exec .enterQpi s = .next { s.completed .enterQpi ws as rest with result := .transportCommandFailed }

/-- O45, R32, R33, R127, R128. For every step in which SEQ moves, and every other step but one whose act is a reset, TM
afterwards is TM before, replaced by the mode of each configure call answered Ok that the step added to the trace:
TM is written by nothing else. -/
def Obligations.TmMirrorsTheLastConfigure : Prop :=
  ∀ s t : State, (s.canMove = true ∨ s.env.head? ≠ some .reset) → step s = .next t →
    s.trace <+: t.trace ∧ t.tm = latchedBy s.tm (t.trace.drop s.trace.length)

/-- O46, R33, R137, R140, R254. With any shapes: a command issued from idle, from any TM, that ends OK in the same run
having made a transport call and leaves QPI_EN = 0 leaves TM = (L1, SDR, TO_CHIP). Left out is only WAIT_READY with
POLL_IMPL = ASSISTED, whose one call does not touch TM (R173). Where the last phase of a bracket is an address or
dummy phase, that it returns the mode is deduced (log 17). -/
def Obligations.SuccessLeavesTheTransportNarrow : Prop :=
  ∀ (i : Instr) (s t : State), s.run = false → (s.cfg.pollImpl = .reads ∨ i ≠ .waitReady) → exec i s = .next t →
    t.run = false → t.result = .ok → t.trace ≠ s.trace → t.qpiEn = false →
    t.tm = { lines := .l1, rate := .sdr, dir := .toChip }

/-- O47, R32, R126. From every state in which TM.lines = L1 implies TM.dir = TO_CHIP, every step gives such a state. -/
def Obligations.TransportModeStaysNormal : Prop :=
  ∀ s t : State, s.tmNormal → step s = .next t → t.tmNormal

/-- O48, R22, R27, R28. The invariant State.runCoherent (nothing is left to do when RUN = 0; when RUN = 1 what is left
ends in the command's end, its head is not the command's end, no item stands in IDLE, and DONE = 0) is kept by every
step; and in a state that has it POS is in IDLE exactly when RUN = 0, and then is (IDLE, 0). That POS is a view of
what is left to do is the model's choice (log 15). -/
def Obligations.RunDoneAndPositionStayCoherent : Prop :=
  (∀ s t : State, s.runCoherent → step s = .next t → t.runCoherent) ∧
  (∀ s : State, s.runCoherent → (s.pos.st = .idle ↔ s.run = false) ∧
    (s.run = false → s.pos = { st := .idle, i := 0 }))

/-- O49, R23, R24, R134. From every state whose CKSUM is the sum of RX modulo 2^CKSUM_BITS (CKSUM_BITS at most the 32
bits of the register) and in which no more bytes of RX have been read than it holds, every step gives such a state. -/
def Obligations.ChecksumStaysTheSumOfRx : Prop :=
  ∀ s t : State, s.sumCoherent → step s = .next t → t.sumCoherent

/-- O50, R29, R30, R31, R161, R250. The invariant that the flag writes still to come belong to the command in CMD is
kept by every step; from such a state a step after which a flag differs leaves in CMD the switch that sets the flag
to its new value, unless the step took a reset act, SEQ being unable to move. -/
def Obligations.OnlyItsCommandChangesAFlag : Prop :=
  ∀ s t : State, s.commitsOwn → step s = .next t → t.commitsOwn ∧
    ∀ f : Sys2Proof.Flag, t.flag f ≠ s.flag f → t.cmd = encode (writesFlag f (t.flag f)) ∨
      (s.canMove = false ∧ s.env.head? = some .reset)

/-- O51, R46, R351. The state after reset has TM normalised, RUN and what is left to do coherent, CKSUM the sum of RX,
and no flag write to come. -/
def Obligations.ResetMeetsTheInvariants : Prop :=
  State.reset.tmNormal ∧ State.reset.runCoherent ∧ State.reset.sumCoherent ∧ State.reset.commitsOwn

/-- O52, R21, R14, R45. Whatever a command does, ADDR, ADDR2, LEN, ARG, the parameters, HOST's queue and the values it
has read are unchanged, the trace is extended, and the answers left are a tail of those given. -/
def Obligations.CommandsNeverWriteOperands : Prop :=
  ∀ (i : Instr) (s t : State), exec i s = .next t →
    t.addr = s.addr ∧ t.addr2 = s.addr2 ∧ t.len = s.len ∧ t.arg = s.arg ∧ t.cfg = s.cfg ∧ t.env = s.env ∧
    t.busOut = s.busOut ∧ s.trace <+: t.trace ∧ t.xp <:+ s.xp

/-- O53, R34, R183, R253, R319. A command that is not one of those with a status wait leaves LASTSR as it was, however
it ends: so READ_SR1 and ENTER_QPI, which read a status register, do not write it. -/
def Obligations.OnlyWaitsWriteLastStatus : Prop :=
  ∀ (i : Instr) (s t : State), waits i = false → exec i s = .next t → t.lastSr = s.lastSr

/-- O54, R120, R125, R326. When a run against the first part uses all of it, going on with the second part gives the
state that the run against both gives: SEQ keeps nothing between calls but the state. -/
def Obligations.AnswersMayComeInPieces : Prop :=
  ∀ (as bs : List Answer) (s : State), (drive as s).xp = [] → drive (as ++ bs) s = drive bs (drive as s)

/-- O55, R293, R294. For every page size of at least 1: each chunk has between 1 and PAGE_SIZE bytes, starts at ADDR
plus its source index, ends within its page, and every chunk but the first starts a page; the sizes make up the
request in order; their number is floor((addr + len - 1) / P) - floor(addr / P) + 1; a request within one page is
one chunk, unchanged. -/
def Obligations.ChunkArithmetic : Prop :=
  ∀ page addr len : Nat, 0 < page →
    (∀ k ∈ chunks page addr len, k.1 = addr + k.2.1 ∧ 1 ≤ k.2.2 ∧ k.2.2 ≤ page ∧ k.1 % page + k.2.2 ≤ page ∧
      (0 < k.2.1 → k.1 % page = 0)) ∧
    (∀ tx : List Byte, tx.length = len →
      (chunks page addr len).flatMap (fun k => (tx.drop k.2.1).take k.2.2) = tx) ∧
    (0 < len → (chunks page addr len).length = (addr + len - 1) / page - addr / page + 1) ∧
    (0 < len → addr % page + len ≤ page → chunks page addr len = [(addr, 0, len)])

/-- O56, R201, R202, R203, R204, R205, R206, R207, R208, R209, R238, R240. From reset with ADDR = 0x000100 and LEN = 2
and every call accepted, each read command of 43_read.md makes the calls of its rule's worked example, in order (a
byte a pure-input phase ignores being DUMMY_BYTE). READ_UNIQUE_ID sends four dummy bytes, five with A4B = 1, and
clocks eight bytes in; SEC_READ at a security base sends the address, of four bytes with A4B = 1, and one dummy
byte, and clocks LEN bytes in. The opcode bytes and shapes are the spec's own defaults from general knowledge (log
21). -/
def Obligations.WorkedReadExamples : Prop :=
  let s : State := { State.reset with
    addr := 0x000100#32, len := 2#32, xp := List.replicate 30 { call := .ok, xfer := .done 0xA1#8, poll := .error } }
  callsMade (exec .readData s) =
    [.selectLow, sent 0x03#8, sent 0x00#8, sent 0x01#8, sent 0x00#8, sent 0xFF#8, sent 0xFF#8, .selectHigh] ∧
  callsMade (exec .fastRead s) =
    [.selectLow, sent 0x0B#8, sent 0x00#8, sent 0x01#8, sent 0x00#8, sent 0xFF#8, sent 0xFF#8, sent 0xFF#8,
     .selectHigh] ∧
  callsMade (exec .readDualOut s) =
    [.selectLow, sent 0x3B#8, sent 0x00#8, sent 0x01#8, sent 0x00#8, sent 0xFF#8, conf .l2 .sdr .fromChip,
     sent 0xFF#8, sent 0xFF#8, conf .l1 .sdr .toChip, .selectHigh] ∧
  callsMade (exec .readDualIo s) =
    [.selectLow, sent 0xBB#8, conf .l2 .sdr .toChip, sent 0x00#8, sent 0x01#8, sent 0x00#8, sent 0xFF#8,
     conf .l2 .sdr .fromChip, sent 0xFF#8, sent 0xFF#8, conf .l1 .sdr .toChip, .selectHigh] ∧
  callsMade (exec .readQuadOut s) =
    [.selectLow, sent 0x6B#8, sent 0x00#8, sent 0x01#8, sent 0x00#8, sent 0xFF#8, conf .l4 .sdr .fromChip,
     sent 0xFF#8, sent 0xFF#8, conf .l1 .sdr .toChip, .selectHigh] ∧
  callsMade (exec .readQuadIo s) =
    [.selectLow, sent 0xEB#8, conf .l4 .sdr .toChip, sent 0x00#8, sent 0x01#8, sent 0x00#8, sent 0xFF#8,
     conf .l4 .sdr .fromChip, sent 0xFF#8, sent 0xFF#8, sent 0xFF#8, sent 0xFF#8, conf .l1 .sdr .toChip,
     .selectHigh] ∧
  callsMade (exec .readDtr s) =
    [.selectLow, sent 0x0D#8, conf .l1 .dtr .toChip, sent 0x00#8, sent 0x01#8, sent 0x00#8,
     conf .l4 .dtr .fromChip, sent 0xFF#8, sent 0xFF#8, sent 0xFF#8, sent 0xFF#8, sent 0xFF#8, sent 0xFF#8,
     conf .l1 .dtr .toChip, sent 0xFF#8, sent 0xFF#8, conf .l1 .sdr .toChip, .selectHigh] ∧
  callsMade (exec .readDualIoDtr s) =
    [.selectLow, sent 0xBD#8, conf .l2 .dtr .toChip, sent 0x00#8, sent 0x01#8, sent 0x00#8, sent 0xFF#8,
     conf .l4 .dtr .fromChip, sent 0xFF#8, sent 0xFF#8, sent 0xFF#8, sent 0xFF#8, conf .l2 .dtr .fromChip,
     sent 0xFF#8, sent 0xFF#8, conf .l1 .sdr .toChip, .selectHigh] ∧
  callsMade (exec .readQuadIoDtr s) =
    [.selectLow, sent 0xED#8, conf .l4 .dtr .toChip, sent 0x00#8, sent 0x01#8, sent 0x00#8, sent 0xFF#8,
     conf .l4 .dtr .fromChip, sent 0xFF#8, sent 0xFF#8, sent 0xFF#8, sent 0xFF#8, sent 0xFF#8, sent 0xFF#8,
     sent 0xFF#8, sent 0xFF#8, sent 0xFF#8, conf .l1 .sdr .toChip, .selectHigh] ∧
  callsMade (exec .readUniqueId s) =
    [.selectLow, sent 0x4B#8, sent 0xFF#8, sent 0xFF#8, sent 0xFF#8, sent 0xFF#8, sent 0xFF#8, sent 0xFF#8,
     sent 0xFF#8, sent 0xFF#8, sent 0xFF#8, sent 0xFF#8, sent 0xFF#8, sent 0xFF#8, .selectHigh] ∧
  callsMade (exec .readUniqueId { s with a4b := true }) =
    [.selectLow, sent 0x4B#8, sent 0xFF#8, sent 0xFF#8, sent 0xFF#8, sent 0xFF#8, sent 0xFF#8, sent 0xFF#8,
     sent 0xFF#8, sent 0xFF#8, sent 0xFF#8, sent 0xFF#8, sent 0xFF#8, sent 0xFF#8, sent 0xFF#8, .selectHigh] ∧
  callsMade (exec .secRead { s with addr := 0x001000#32 }) =
    [.selectLow, sent 0x48#8, sent 0x00#8, sent 0x10#8, sent 0x00#8, sent 0xFF#8, sent 0xFF#8, sent 0xFF#8,
     .selectHigh] ∧
  callsMade (exec .secRead { s with addr := 0x003000#32, a4b := true }) =
    [.selectLow, sent 0x48#8, sent 0x00#8, sent 0x00#8, sent 0x30#8, sent 0x00#8, sent 0xFF#8, sent 0xFF#8,
     sent 0xFF#8, .selectHigh]

/-- O57, R81, R82, R84. On a canonical memory a byte reads as last written there and every other byte as before; after
an erase the bytes of the unit read 0xFF and the others as before; two canonical memories that read alike everywhere
are equal. The device is the spec's environment model (R80), not the block. -/
def Obligations.DeviceMemoryLaws : Prop :=
  (∀ (m : List Host.Cell) (a x : Nat) (b : Byte), memWf m = true →
    memRead (memWrite m a b) x = if x = a then b else memRead m x) ∧
  (∀ (m : List Host.Cell) (base n x : Nat), memWf m = true →
    memRead (memErase m base n) x = if base ≤ x ∧ x < base + n then 0xFF#8 else memRead m x) ∧
  (∀ m m' : List Host.Cell, memWf m = true → memWf m' = true → (∀ x, memRead m x = memRead m' x) → m = m')

/-- O58, R80, R82, R83. Programming the bytes v at an address, v ending within the page, on bytes that are erased: byte
i of the range then reads v[i], and every byte outside it reads as before. -/
def Obligations.ProgramReadsBackInsideAPage : Prop :=
  ∀ (m : List Host.Cell) (page addr : Nat) (v : List Byte), memWf m = true → 0 < page →
    addr % page + v.length ≤ page → (∀ x, addr ≤ x → x < addr + v.length → memRead m x = 0xFF#8) →
    (∀ (i : Nat) (b : Byte), v[i]? = some b → memRead (programBytes m page addr 0 v) (addr + i) = b) ∧
    (∀ x, x < addr ∨ addr + v.length ≤ x → memRead (programBytes m page addr 0 v) x = memRead m x)

/-- O59, R81, R83, R84. From every device state whose array and security registers are in canonical form, the answer to
any call leaves them so. -/
def Obligations.DeviceKeepsCanonicalMemory : Prop :=
  ∀ (d : Dev) (c : Cfg) (k : Call), d.wf = true → (d.answer c k).2.wf = true

/-- O60, R25, R45, R163. A command of format ALD, issued from idle with at most LEN bytes in the TX FIFO, that has
ended, with success, an error or a refused operand, leaves the FIFO empty; a command of any other format leaves it
as it was; and finish, from any state, empties it when the running command has format ALD and no byte beyond LEN was
pushed, leaves it for the other formats, and leaves a free value where more bytes were pushed. That the unused bytes
go with the command is deduced from R25 and R45 (log 10); that bytes beyond LEN leave a free value is the model's
choice (log 11). -/
def Obligations.TxBelongsToItsCommand : Prop :=
  (∀ (i : Instr) (s t : State), s.run = false → i.format = .fALD → s.txFifo.length ≤ s.len.toNat → exec i s = .next t →
    t.run = false → t.txFifo = []) ∧
  (∀ (i : Instr) (s t : State), s.run = false → i.format ≠ .fALD → exec i s = .next t → t.txFifo = s.txFifo) ∧
  (∀ (r : Result) (s : State),
    (s.smp.fmt ≠ .fALD → (finish r s).txFifo = s.txFifo) ∧
    (s.smp.fmt = .fALD → (finish r s).txFifo =
      if s.txFifo.length ≤ s.smp.len.toNat - s.txUsed then [] else Config.freeFifo s.freeCount))
end

