-- ==== Sys2Proof/Laws/Memory.lean ====
section
/-! SUPPORT. The byte memory of the reference device: every operation keeps the canonical form. -/

namespace Sys2Proof.Machine

theorem memWf_nil : memWf [] = true := rfl

theorem memWf_cons {k : Nat} {v : Byte} {rest : List Host.Cell} :
    memWf ((k, v) :: rest) = true ↔ v ≠ erasedByte ∧ (∀ c ∈ rest, k < c.1) ∧ memWf rest = true := by
  simp [memWf, and_assoc]

/-- The cells of a written memory are the written one and the old ones. -/
theorem mem_memWrite {m : List Host.Cell} {a : Nat} {b : Byte} {c : Host.Cell} (h : c ∈ memWrite m a b) :
    c = (a, b) ∨ c ∈ m := by
  induction m with
  | nil =>
    simp only [memWrite] at h
    split at h <;> simp_all
  | cons x rest ih =>
    obtain ⟨k, v⟩ := x
    simp only [memWrite] at h
    split at h
    · split at h <;> simp_all
    · split at h
      · split at h <;> simp_all
        rcases h with h | h <;> simp [h]
      · rcases List.mem_cons.1 h with h | h
        · simp [h]
        · rcases ih h with h | h <;> simp [h]

/-- A write keeps the canonical form. -/
theorem memWf_memWrite {m : List Host.Cell} (h : memWf m = true) (a : Nat) (b : Byte) : memWf (memWrite m a b) = true := by
  induction m with
  | nil =>
    simp only [memWrite]
    split
    · rfl
    · rename_i hb; simp [memWf, hb]
  | cons x rest ih =>
    obtain ⟨k, v⟩ := x
    obtain ⟨hv, hlt, hrest⟩ := memWf_cons.1 h
    simp only [memWrite]
    split
    · rename_i hak
      split
      · exact h
      · rename_i hb
        refine memWf_cons.2 ⟨hb, ?_, h⟩
        intro c hc
        rcases List.mem_cons.1 hc with hc | hc
        · simpa [hc] using hak
        · exact hak.trans (hlt c hc)
    · split
      · rename_i hak
        split
        · exact hrest
        · rename_i hb
          exact memWf_cons.2 ⟨hb, fun c hc => hak ▸ hlt c hc, hrest⟩
      · rename_i h1 h2
        refine memWf_cons.2 ⟨hv, fun c hc => ?_, ih hrest⟩
        rcases mem_memWrite hc with hc | hc
        · simp only [hc]; omega
        · exact hlt c hc

/-- Erasing keeps the canonical form. -/
theorem memWf_memErase {m : List Host.Cell} (h : memWf m = true) (base n : Nat) : memWf (memErase m base n) = true := by
  induction m with
  | nil => rfl
  | cons x rest ih =>
    obtain ⟨k, v⟩ := x
    obtain ⟨hv, hlt, hrest⟩ := memWf_cons.1 h
    simp only [memErase, List.filter_cons]
    split
    · refine memWf_cons.2 ⟨hv, fun c hc => hlt c (List.mem_of_mem_filter hc), ih hrest⟩
    · exact ih hrest

/-- Programming keeps the canonical form. -/
theorem memWf_programBytes {m : List Host.Cell} (h : memWf m = true) (page addr i : Nat) (v : List Byte) :
    memWf (programBytes m page addr i v) = true := by
  induction v generalizing m i with
  | nil => exact h
  | cons b rest ih => exact ih (memWf_memWrite h _ _) _

end Sys2Proof.Machine
end

