-- ==== Sys2Proof/Laws/State.lean ====
section
/-! SUPPORT. One lemma per field for each named update of the state: what it leaves alone, and what it writes. -/

namespace Sys2Proof.Machine

/-! `rxPush` -/

@[simp] theorem rxPush_cfg (b : Byte) (s : State) : (rxPush b s).cfg = s.cfg := rfl
@[simp] theorem rxPush_addr (b : Byte) (s : State) : (rxPush b s).addr = s.addr := rfl
@[simp] theorem rxPush_addr2 (b : Byte) (s : State) : (rxPush b s).addr2 = s.addr2 := rfl
@[simp] theorem rxPush_len (b : Byte) (s : State) : (rxPush b s).len = s.len := rfl
@[simp] theorem rxPush_arg (b : Byte) (s : State) : (rxPush b s).arg = s.arg := rfl
@[simp] theorem rxPush_cmd (b : Byte) (s : State) : (rxPush b s).cmd = s.cmd := rfl
@[simp] theorem rxPush_result (b : Byte) (s : State) : (rxPush b s).result = s.result := rfl
@[simp] theorem rxPush_run (b : Byte) (s : State) : (rxPush b s).run = s.run := rfl
@[simp] theorem rxPush_done (b : Byte) (s : State) : (rxPush b s).done = s.done := rfl
@[simp] theorem rxPush_cksum (b : Byte) (s : State) : (rxPush b s).cksum = BitVec.ofNat 32 ((s.cksum.toNat + b.toNat) % 2 ^ s.cfg.cksumBits) := rfl
@[simp] theorem rxPush_rx (b : Byte) (s : State) : (rxPush b s).rx = s.rx ++ [b] := rfl
@[simp] theorem rxPush_a4b (b : Byte) (s : State) : (rxPush b s).a4b = s.a4b := rfl
@[simp] theorem rxPush_qpiEn (b : Byte) (s : State) : (rxPush b s).qpiEn = s.qpiEn := rfl
@[simp] theorem rxPush_dtrEn (b : Byte) (s : State) : (rxPush b s).dtrEn = s.dtrEn := rfl
@[simp] theorem rxPush_tm (b : Byte) (s : State) : (rxPush b s).tm = s.tm := rfl
@[simp] theorem rxPush_lastSr (b : Byte) (s : State) : (rxPush b s).lastSr = s.lastSr := rfl
@[simp] theorem rxPush_todo (b : Byte) (s : State) : (rxPush b s).todo = s.todo := rfl
@[simp] theorem rxPush_smp (b : Byte) (s : State) : (rxPush b s).smp = s.smp := rfl
@[simp] theorem rxPush_sr (b : Byte) (s : State) : (rxPush b s).sr = s.sr := rfl
@[simp] theorem rxPush_n (b : Byte) (s : State) : (rxPush b s).n = s.n := rfl
@[simp] theorem rxPush_off (b : Byte) (s : State) : (rxPush b s).off = s.off := rfl
@[simp] theorem rxPush_rem (b : Byte) (s : State) : (rxPush b s).rem = s.rem := rfl
@[simp] theorem rxPush_srci (b : Byte) (s : State) : (rxPush b s).srci = s.srci := rfl
@[simp] theorem rxPush_txFifo (b : Byte) (s : State) : (rxPush b s).txFifo = s.txFifo := rfl
@[simp] theorem rxPush_txUsed (b : Byte) (s : State) : (rxPush b s).txUsed = s.txUsed := rfl
@[simp] theorem rxPush_rxRead (b : Byte) (s : State) : (rxPush b s).rxRead = s.rxRead := rfl
@[simp] theorem rxPush_env (b : Byte) (s : State) : (rxPush b s).env = s.env := rfl
@[simp] theorem rxPush_xp (b : Byte) (s : State) : (rxPush b s).xp = s.xp := rfl
@[simp] theorem rxPush_trace (b : Byte) (s : State) : (rxPush b s).trace = s.trace := rfl
@[simp] theorem rxPush_busOut (b : Byte) (s : State) : (rxPush b s).busOut = s.busOut := rfl
@[simp] theorem rxPush_freeCount (b : Byte) (s : State) : (rxPush b s).freeCount = s.freeCount := rfl

/-! `advanceChunk` -/

@[simp] theorem advanceChunk_cfg (z : Nat) (s : State) : (advanceChunk z s).cfg = s.cfg := rfl
@[simp] theorem advanceChunk_addr (z : Nat) (s : State) : (advanceChunk z s).addr = s.addr := rfl
@[simp] theorem advanceChunk_addr2 (z : Nat) (s : State) : (advanceChunk z s).addr2 = s.addr2 := rfl
@[simp] theorem advanceChunk_len (z : Nat) (s : State) : (advanceChunk z s).len = s.len := rfl
@[simp] theorem advanceChunk_arg (z : Nat) (s : State) : (advanceChunk z s).arg = s.arg := rfl
@[simp] theorem advanceChunk_cmd (z : Nat) (s : State) : (advanceChunk z s).cmd = s.cmd := rfl
@[simp] theorem advanceChunk_result (z : Nat) (s : State) : (advanceChunk z s).result = s.result := rfl
@[simp] theorem advanceChunk_run (z : Nat) (s : State) : (advanceChunk z s).run = s.run := rfl
@[simp] theorem advanceChunk_done (z : Nat) (s : State) : (advanceChunk z s).done = s.done := rfl
@[simp] theorem advanceChunk_cksum (z : Nat) (s : State) : (advanceChunk z s).cksum = s.cksum := rfl
@[simp] theorem advanceChunk_rx (z : Nat) (s : State) : (advanceChunk z s).rx = s.rx := rfl
@[simp] theorem advanceChunk_a4b (z : Nat) (s : State) : (advanceChunk z s).a4b = s.a4b := rfl
@[simp] theorem advanceChunk_qpiEn (z : Nat) (s : State) : (advanceChunk z s).qpiEn = s.qpiEn := rfl
@[simp] theorem advanceChunk_dtrEn (z : Nat) (s : State) : (advanceChunk z s).dtrEn = s.dtrEn := rfl
@[simp] theorem advanceChunk_tm (z : Nat) (s : State) : (advanceChunk z s).tm = s.tm := rfl
@[simp] theorem advanceChunk_lastSr (z : Nat) (s : State) : (advanceChunk z s).lastSr = s.lastSr := rfl
@[simp] theorem advanceChunk_todo (z : Nat) (s : State) : (advanceChunk z s).todo = s.todo := rfl
@[simp] theorem advanceChunk_smp (z : Nat) (s : State) : (advanceChunk z s).smp = s.smp := rfl
@[simp] theorem advanceChunk_sr (z : Nat) (s : State) : (advanceChunk z s).sr = s.sr := rfl
@[simp] theorem advanceChunk_n (z : Nat) (s : State) : (advanceChunk z s).n = s.n := rfl
@[simp] theorem advanceChunk_off (z : Nat) (s : State) : (advanceChunk z s).off = s.off + BitVec.ofNat 32 z := rfl
@[simp] theorem advanceChunk_rem (z : Nat) (s : State) : (advanceChunk z s).rem = s.rem - BitVec.ofNat 32 z := rfl
@[simp] theorem advanceChunk_srci (z : Nat) (s : State) : (advanceChunk z s).srci = s.srci + BitVec.ofNat 32 z := rfl
@[simp] theorem advanceChunk_txFifo (z : Nat) (s : State) : (advanceChunk z s).txFifo = s.txFifo := rfl
@[simp] theorem advanceChunk_txUsed (z : Nat) (s : State) : (advanceChunk z s).txUsed = s.txUsed := rfl
@[simp] theorem advanceChunk_rxRead (z : Nat) (s : State) : (advanceChunk z s).rxRead = s.rxRead := rfl
@[simp] theorem advanceChunk_env (z : Nat) (s : State) : (advanceChunk z s).env = s.env := rfl
@[simp] theorem advanceChunk_xp (z : Nat) (s : State) : (advanceChunk z s).xp = s.xp := rfl
@[simp] theorem advanceChunk_trace (z : Nat) (s : State) : (advanceChunk z s).trace = s.trace := rfl
@[simp] theorem advanceChunk_busOut (z : Nat) (s : State) : (advanceChunk z s).busOut = s.busOut := rfl
@[simp] theorem advanceChunk_freeCount (z : Nat) (s : State) : (advanceChunk z s).freeCount = s.freeCount := rfl

/-! `sampleAndClear` -/

@[simp] theorem sampleAndClear_cfg (i : Instr) (s : State) : (sampleAndClear i s).cfg = s.cfg := rfl
@[simp] theorem sampleAndClear_addr (i : Instr) (s : State) : (sampleAndClear i s).addr = s.addr := rfl
@[simp] theorem sampleAndClear_addr2 (i : Instr) (s : State) : (sampleAndClear i s).addr2 = s.addr2 := rfl
@[simp] theorem sampleAndClear_len (i : Instr) (s : State) : (sampleAndClear i s).len = s.len := rfl
@[simp] theorem sampleAndClear_arg (i : Instr) (s : State) : (sampleAndClear i s).arg = s.arg := rfl
@[simp] theorem sampleAndClear_cmd (i : Instr) (s : State) : (sampleAndClear i s).cmd = encode i := rfl
@[simp] theorem sampleAndClear_result (i : Instr) (s : State) : (sampleAndClear i s).result = s.result := rfl
@[simp] theorem sampleAndClear_run (i : Instr) (s : State) : (sampleAndClear i s).run = true := rfl
@[simp] theorem sampleAndClear_done (i : Instr) (s : State) : (sampleAndClear i s).done = false := rfl
@[simp] theorem sampleAndClear_cksum (i : Instr) (s : State) : (sampleAndClear i s).cksum = 0 := rfl
@[simp] theorem sampleAndClear_rx (i : Instr) (s : State) : (sampleAndClear i s).rx = [] := rfl
@[simp] theorem sampleAndClear_a4b (i : Instr) (s : State) : (sampleAndClear i s).a4b = s.a4b := rfl
@[simp] theorem sampleAndClear_qpiEn (i : Instr) (s : State) : (sampleAndClear i s).qpiEn = s.qpiEn := rfl
@[simp] theorem sampleAndClear_dtrEn (i : Instr) (s : State) : (sampleAndClear i s).dtrEn = s.dtrEn := rfl
@[simp] theorem sampleAndClear_tm (i : Instr) (s : State) : (sampleAndClear i s).tm = s.tm := rfl
@[simp] theorem sampleAndClear_lastSr (i : Instr) (s : State) : (sampleAndClear i s).lastSr = s.lastSr := rfl
@[simp] theorem sampleAndClear_todo (i : Instr) (s : State) : (sampleAndClear i s).todo = s.todo := rfl
@[simp] theorem sampleAndClear_smp (i : Instr) (s : State) : (sampleAndClear i s).smp = { addr := s.addr, addr2 := s.addr2, len := s.len, arg := s.arg, a4b := s.a4b, qpi := s.qpiEn, dtr := s.dtrEn, fmt := i.format } := rfl
@[simp] theorem sampleAndClear_sr (i : Instr) (s : State) : (sampleAndClear i s).sr = s.sr := rfl
@[simp] theorem sampleAndClear_n (i : Instr) (s : State) : (sampleAndClear i s).n = s.n := rfl
@[simp] theorem sampleAndClear_off (i : Instr) (s : State) : (sampleAndClear i s).off = s.off := rfl
@[simp] theorem sampleAndClear_rem (i : Instr) (s : State) : (sampleAndClear i s).rem = s.rem := rfl
@[simp] theorem sampleAndClear_srci (i : Instr) (s : State) : (sampleAndClear i s).srci = s.srci := rfl
@[simp] theorem sampleAndClear_txFifo (i : Instr) (s : State) : (sampleAndClear i s).txFifo = s.txFifo := rfl
@[simp] theorem sampleAndClear_txUsed (i : Instr) (s : State) : (sampleAndClear i s).txUsed = 0 := rfl
@[simp] theorem sampleAndClear_rxRead (i : Instr) (s : State) : (sampleAndClear i s).rxRead = 0 := rfl
@[simp] theorem sampleAndClear_env (i : Instr) (s : State) : (sampleAndClear i s).env = s.env := rfl
@[simp] theorem sampleAndClear_xp (i : Instr) (s : State) : (sampleAndClear i s).xp = s.xp := rfl
@[simp] theorem sampleAndClear_trace (i : Instr) (s : State) : (sampleAndClear i s).trace = s.trace := rfl
@[simp] theorem sampleAndClear_busOut (i : Instr) (s : State) : (sampleAndClear i s).busOut = s.busOut := rfl
@[simp] theorem sampleAndClear_freeCount (i : Instr) (s : State) : (sampleAndClear i s).freeCount = s.freeCount := rfl

/-! `setFlag` -/

@[simp] theorem setFlag_cfg (f : Flag) (v : Bool) (s : State) : (setFlag f v s).cfg = s.cfg := by cases f <;> rfl
@[simp] theorem setFlag_addr (f : Flag) (v : Bool) (s : State) : (setFlag f v s).addr = s.addr := by cases f <;> rfl
@[simp] theorem setFlag_addr2 (f : Flag) (v : Bool) (s : State) : (setFlag f v s).addr2 = s.addr2 := by cases f <;> rfl
@[simp] theorem setFlag_len (f : Flag) (v : Bool) (s : State) : (setFlag f v s).len = s.len := by cases f <;> rfl
@[simp] theorem setFlag_arg (f : Flag) (v : Bool) (s : State) : (setFlag f v s).arg = s.arg := by cases f <;> rfl
@[simp] theorem setFlag_cmd (f : Flag) (v : Bool) (s : State) : (setFlag f v s).cmd = s.cmd := by cases f <;> rfl
@[simp] theorem setFlag_result (f : Flag) (v : Bool) (s : State) : (setFlag f v s).result = s.result := by cases f <;> rfl
@[simp] theorem setFlag_run (f : Flag) (v : Bool) (s : State) : (setFlag f v s).run = s.run := by cases f <;> rfl
@[simp] theorem setFlag_done (f : Flag) (v : Bool) (s : State) : (setFlag f v s).done = s.done := by cases f <;> rfl
@[simp] theorem setFlag_cksum (f : Flag) (v : Bool) (s : State) : (setFlag f v s).cksum = s.cksum := by cases f <;> rfl
@[simp] theorem setFlag_rx (f : Flag) (v : Bool) (s : State) : (setFlag f v s).rx = s.rx := by cases f <;> rfl
@[simp] theorem setFlag_tm (f : Flag) (v : Bool) (s : State) : (setFlag f v s).tm = s.tm := by cases f <;> rfl
@[simp] theorem setFlag_lastSr (f : Flag) (v : Bool) (s : State) : (setFlag f v s).lastSr = s.lastSr := by cases f <;> rfl
@[simp] theorem setFlag_todo (f : Flag) (v : Bool) (s : State) : (setFlag f v s).todo = s.todo := by cases f <;> rfl
@[simp] theorem setFlag_smp (f : Flag) (v : Bool) (s : State) : (setFlag f v s).smp = s.smp := by cases f <;> rfl
@[simp] theorem setFlag_sr (f : Flag) (v : Bool) (s : State) : (setFlag f v s).sr = s.sr := by cases f <;> rfl
@[simp] theorem setFlag_n (f : Flag) (v : Bool) (s : State) : (setFlag f v s).n = s.n := by cases f <;> rfl
@[simp] theorem setFlag_off (f : Flag) (v : Bool) (s : State) : (setFlag f v s).off = s.off := by cases f <;> rfl
@[simp] theorem setFlag_rem (f : Flag) (v : Bool) (s : State) : (setFlag f v s).rem = s.rem := by cases f <;> rfl
@[simp] theorem setFlag_srci (f : Flag) (v : Bool) (s : State) : (setFlag f v s).srci = s.srci := by cases f <;> rfl
@[simp] theorem setFlag_txFifo (f : Flag) (v : Bool) (s : State) : (setFlag f v s).txFifo = s.txFifo := by cases f <;> rfl
@[simp] theorem setFlag_txUsed (f : Flag) (v : Bool) (s : State) : (setFlag f v s).txUsed = s.txUsed := by cases f <;> rfl
@[simp] theorem setFlag_rxRead (f : Flag) (v : Bool) (s : State) : (setFlag f v s).rxRead = s.rxRead := by cases f <;> rfl
@[simp] theorem setFlag_env (f : Flag) (v : Bool) (s : State) : (setFlag f v s).env = s.env := by cases f <;> rfl
@[simp] theorem setFlag_xp (f : Flag) (v : Bool) (s : State) : (setFlag f v s).xp = s.xp := by cases f <;> rfl
@[simp] theorem setFlag_trace (f : Flag) (v : Bool) (s : State) : (setFlag f v s).trace = s.trace := by cases f <;> rfl
@[simp] theorem setFlag_busOut (f : Flag) (v : Bool) (s : State) : (setFlag f v s).busOut = s.busOut := by cases f <;> rfl
@[simp] theorem setFlag_freeCount (f : Flag) (v : Bool) (s : State) : (setFlag f v s).freeCount = s.freeCount := by cases f <;> rfl

/-! `dropTx` -/

@[simp] theorem dropTx_cfg (s : State) : (dropTx s).cfg = s.cfg := by unfold dropTx; split <;> (try split) <;> rfl
@[simp] theorem dropTx_addr (s : State) : (dropTx s).addr = s.addr := by unfold dropTx; split <;> (try split) <;> rfl
@[simp] theorem dropTx_addr2 (s : State) : (dropTx s).addr2 = s.addr2 := by unfold dropTx; split <;> (try split) <;> rfl
@[simp] theorem dropTx_len (s : State) : (dropTx s).len = s.len := by unfold dropTx; split <;> (try split) <;> rfl
@[simp] theorem dropTx_arg (s : State) : (dropTx s).arg = s.arg := by unfold dropTx; split <;> (try split) <;> rfl
@[simp] theorem dropTx_cmd (s : State) : (dropTx s).cmd = s.cmd := by unfold dropTx; split <;> (try split) <;> rfl
@[simp] theorem dropTx_result (s : State) : (dropTx s).result = s.result := by unfold dropTx; split <;> (try split) <;> rfl
@[simp] theorem dropTx_run (s : State) : (dropTx s).run = s.run := by unfold dropTx; split <;> (try split) <;> rfl
@[simp] theorem dropTx_done (s : State) : (dropTx s).done = s.done := by unfold dropTx; split <;> (try split) <;> rfl
@[simp] theorem dropTx_cksum (s : State) : (dropTx s).cksum = s.cksum := by unfold dropTx; split <;> (try split) <;> rfl
@[simp] theorem dropTx_rx (s : State) : (dropTx s).rx = s.rx := by unfold dropTx; split <;> (try split) <;> rfl
@[simp] theorem dropTx_a4b (s : State) : (dropTx s).a4b = s.a4b := by unfold dropTx; split <;> (try split) <;> rfl
@[simp] theorem dropTx_qpiEn (s : State) : (dropTx s).qpiEn = s.qpiEn := by unfold dropTx; split <;> (try split) <;> rfl
@[simp] theorem dropTx_dtrEn (s : State) : (dropTx s).dtrEn = s.dtrEn := by unfold dropTx; split <;> (try split) <;> rfl
@[simp] theorem dropTx_tm (s : State) : (dropTx s).tm = s.tm := by unfold dropTx; split <;> (try split) <;> rfl
@[simp] theorem dropTx_lastSr (s : State) : (dropTx s).lastSr = s.lastSr := by unfold dropTx; split <;> (try split) <;> rfl
@[simp] theorem dropTx_todo (s : State) : (dropTx s).todo = s.todo := by unfold dropTx; split <;> (try split) <;> rfl
@[simp] theorem dropTx_smp (s : State) : (dropTx s).smp = s.smp := by unfold dropTx; split <;> (try split) <;> rfl
@[simp] theorem dropTx_sr (s : State) : (dropTx s).sr = s.sr := by unfold dropTx; split <;> (try split) <;> rfl
@[simp] theorem dropTx_n (s : State) : (dropTx s).n = s.n := by unfold dropTx; split <;> (try split) <;> rfl
@[simp] theorem dropTx_off (s : State) : (dropTx s).off = s.off := by unfold dropTx; split <;> (try split) <;> rfl
@[simp] theorem dropTx_rem (s : State) : (dropTx s).rem = s.rem := by unfold dropTx; split <;> (try split) <;> rfl
@[simp] theorem dropTx_srci (s : State) : (dropTx s).srci = s.srci := by unfold dropTx; split <;> (try split) <;> rfl
@[simp] theorem dropTx_txUsed (s : State) : (dropTx s).txUsed = s.txUsed := by unfold dropTx; split <;> (try split) <;> rfl
@[simp] theorem dropTx_rxRead (s : State) : (dropTx s).rxRead = s.rxRead := by unfold dropTx; split <;> (try split) <;> rfl
@[simp] theorem dropTx_env (s : State) : (dropTx s).env = s.env := by unfold dropTx; split <;> (try split) <;> rfl
@[simp] theorem dropTx_xp (s : State) : (dropTx s).xp = s.xp := by unfold dropTx; split <;> (try split) <;> rfl
@[simp] theorem dropTx_trace (s : State) : (dropTx s).trace = s.trace := by unfold dropTx; split <;> (try split) <;> rfl
@[simp] theorem dropTx_busOut (s : State) : (dropTx s).busOut = s.busOut := by unfold dropTx; split <;> (try split) <;> rfl

/-! `finish` -/

@[simp] theorem finish_cfg (r : Result) (s : State) : (finish r s).cfg = s.cfg := by simp [finish]
@[simp] theorem finish_addr (r : Result) (s : State) : (finish r s).addr = s.addr := by simp [finish]
@[simp] theorem finish_addr2 (r : Result) (s : State) : (finish r s).addr2 = s.addr2 := by simp [finish]
@[simp] theorem finish_len (r : Result) (s : State) : (finish r s).len = s.len := by simp [finish]
@[simp] theorem finish_arg (r : Result) (s : State) : (finish r s).arg = s.arg := by simp [finish]
@[simp] theorem finish_cmd (r : Result) (s : State) : (finish r s).cmd = s.cmd := by simp [finish]
@[simp] theorem finish_result (r : Result) (s : State) : (finish r s).result = r := by simp [finish]
@[simp] theorem finish_run (r : Result) (s : State) : (finish r s).run = false := by simp [finish]
@[simp] theorem finish_done (r : Result) (s : State) : (finish r s).done = true := by simp [finish]
@[simp] theorem finish_cksum (r : Result) (s : State) : (finish r s).cksum = s.cksum := by simp [finish]
@[simp] theorem finish_rx (r : Result) (s : State) : (finish r s).rx = s.rx := by simp [finish]
@[simp] theorem finish_a4b (r : Result) (s : State) : (finish r s).a4b = s.a4b := by simp [finish]
@[simp] theorem finish_qpiEn (r : Result) (s : State) : (finish r s).qpiEn = s.qpiEn := by simp [finish]
@[simp] theorem finish_dtrEn (r : Result) (s : State) : (finish r s).dtrEn = s.dtrEn := by simp [finish]
@[simp] theorem finish_tm (r : Result) (s : State) : (finish r s).tm = s.tm := by simp [finish]
@[simp] theorem finish_lastSr (r : Result) (s : State) : (finish r s).lastSr = s.lastSr := by simp [finish]
@[simp] theorem finish_todo (r : Result) (s : State) : (finish r s).todo = [] := by simp [finish]
@[simp] theorem finish_smp (r : Result) (s : State) : (finish r s).smp = s.smp := by simp [finish]
@[simp] theorem finish_sr (r : Result) (s : State) : (finish r s).sr = s.sr := by simp [finish]
@[simp] theorem finish_n (r : Result) (s : State) : (finish r s).n = s.n := by simp [finish]
@[simp] theorem finish_off (r : Result) (s : State) : (finish r s).off = s.off := by simp [finish]
@[simp] theorem finish_rem (r : Result) (s : State) : (finish r s).rem = s.rem := by simp [finish]
@[simp] theorem finish_srci (r : Result) (s : State) : (finish r s).srci = s.srci := by simp [finish]
@[simp] theorem finish_txUsed (r : Result) (s : State) : (finish r s).txUsed = s.txUsed := by simp [finish]
@[simp] theorem finish_rxRead (r : Result) (s : State) : (finish r s).rxRead = s.rxRead := by simp [finish]
@[simp] theorem finish_env (r : Result) (s : State) : (finish r s).env = s.env := by simp [finish]
@[simp] theorem finish_xp (r : Result) (s : State) : (finish r s).xp = s.xp := by simp [finish]
@[simp] theorem finish_trace (r : Result) (s : State) : (finish r s).trace = s.trace := by simp [finish]
@[simp] theorem finish_busOut (r : Result) (s : State) : (finish r s).busOut = s.busOut := by simp [finish]

/-! `rejectCode` -/

@[simp] theorem rejectCode_cfg (b : Byte) (s : State) : (rejectCode b s).cfg = s.cfg := rfl
@[simp] theorem rejectCode_addr (b : Byte) (s : State) : (rejectCode b s).addr = s.addr := rfl
@[simp] theorem rejectCode_addr2 (b : Byte) (s : State) : (rejectCode b s).addr2 = s.addr2 := rfl
@[simp] theorem rejectCode_len (b : Byte) (s : State) : (rejectCode b s).len = s.len := rfl
@[simp] theorem rejectCode_arg (b : Byte) (s : State) : (rejectCode b s).arg = s.arg := rfl
@[simp] theorem rejectCode_cmd (b : Byte) (s : State) : (rejectCode b s).cmd = b := rfl
@[simp] theorem rejectCode_result (b : Byte) (s : State) : (rejectCode b s).result = .invalidArgument := rfl
@[simp] theorem rejectCode_run (b : Byte) (s : State) : (rejectCode b s).run = false := rfl
@[simp] theorem rejectCode_done (b : Byte) (s : State) : (rejectCode b s).done = true := rfl
@[simp] theorem rejectCode_cksum (b : Byte) (s : State) : (rejectCode b s).cksum = 0 := rfl
@[simp] theorem rejectCode_rx (b : Byte) (s : State) : (rejectCode b s).rx = [] := rfl
@[simp] theorem rejectCode_a4b (b : Byte) (s : State) : (rejectCode b s).a4b = s.a4b := rfl
@[simp] theorem rejectCode_qpiEn (b : Byte) (s : State) : (rejectCode b s).qpiEn = s.qpiEn := rfl
@[simp] theorem rejectCode_dtrEn (b : Byte) (s : State) : (rejectCode b s).dtrEn = s.dtrEn := rfl
@[simp] theorem rejectCode_tm (b : Byte) (s : State) : (rejectCode b s).tm = s.tm := rfl
@[simp] theorem rejectCode_lastSr (b : Byte) (s : State) : (rejectCode b s).lastSr = s.lastSr := rfl
@[simp] theorem rejectCode_todo (b : Byte) (s : State) : (rejectCode b s).todo = [] := rfl
@[simp] theorem rejectCode_smp (b : Byte) (s : State) : (rejectCode b s).smp = s.smp := rfl
@[simp] theorem rejectCode_sr (b : Byte) (s : State) : (rejectCode b s).sr = s.sr := rfl
@[simp] theorem rejectCode_n (b : Byte) (s : State) : (rejectCode b s).n = s.n := rfl
@[simp] theorem rejectCode_off (b : Byte) (s : State) : (rejectCode b s).off = s.off := rfl
@[simp] theorem rejectCode_rem (b : Byte) (s : State) : (rejectCode b s).rem = s.rem := rfl
@[simp] theorem rejectCode_srci (b : Byte) (s : State) : (rejectCode b s).srci = s.srci := rfl
@[simp] theorem rejectCode_txFifo (b : Byte) (s : State) : (rejectCode b s).txFifo = s.txFifo := rfl
@[simp] theorem rejectCode_txUsed (b : Byte) (s : State) : (rejectCode b s).txUsed = s.txUsed := rfl
@[simp] theorem rejectCode_rxRead (b : Byte) (s : State) : (rejectCode b s).rxRead = 0 := rfl
@[simp] theorem rejectCode_env (b : Byte) (s : State) : (rejectCode b s).env = s.env := rfl
@[simp] theorem rejectCode_xp (b : Byte) (s : State) : (rejectCode b s).xp = s.xp := rfl
@[simp] theorem rejectCode_trace (b : Byte) (s : State) : (rejectCode b s).trace = s.trace := rfl
@[simp] theorem rejectCode_busOut (b : Byte) (s : State) : (rejectCode b s).busOut = s.busOut := rfl
@[simp] theorem rejectCode_freeCount (b : Byte) (s : State) : (rejectCode b s).freeCount = s.freeCount := rfl

end Sys2Proof.Machine
end

