-- ==== Sys2Proof/Laws/Ops.lean ====
section
/-! SUPPORT. What the shared operations of the sequencer can do, said once: frames of `settle`, `answerCall` and `drive`,
the induction principle of a run, and the one form every command's meaning has. -/

namespace Sys2Proof.Machine

/-! ## Taking an error -/

theorem raiseError_open (e : Result) (pos : Pos) (s : State) :
    raiseError e true pos s = { s with todo := [.abort e pos] } := rfl

theorem raiseError_closed (e : Result) (pos : Pos) (s : State) : raiseError e false pos s = finish e s := rfl

theorem xferFail_eq (op : Op) (s : State) :
    xferFail op s = { s with todo := [.abort (failKind (opPos op).st) s.pos] } := rfl

theorem pollLoop_eq (p : PollSpec) (ops : List Op) (s : State) :
    pollLoop p ops s =
      if s.n.toNat = s.cfg.budget p.cls then finish p.err s
      else { s with todo := statusReadOps s.cfg s.smp ++ .pollTest p :: ops } := rfl

/-! ## What SEQ leaves alone -/

/-- `t` agrees with `s` on what no step of a running command writes: the parameters, the operands, the command and its
working copies, HOST's side of the FIFOs and the queues. -/
structure Kept (s t : State) : Prop where
  cfg : t.cfg = s.cfg
  addr : t.addr = s.addr
  addr2 : t.addr2 = s.addr2
  len : t.len = s.len
  arg : t.arg = s.arg
  cmd : t.cmd = s.cmd
  smp : t.smp = s.smp
  rxRead : t.rxRead = s.rxRead
  env : t.env = s.env
  xp : t.xp = s.xp
  busOut : t.busOut = s.busOut

/-- `t` agrees with `s` on what a step without a call leaves alone: what every step does, and the bytes received, the
transport mode and the trace. -/
structure Quiet (s t : State) : Prop extends Kept s t where
  cksum : t.cksum = s.cksum
  rx : t.rx = s.rx
  tm : t.tm = s.tm
  sr : t.sr = s.sr
  txUsed : t.txUsed = s.txUsed
  trace : t.trace = s.trace

theorem Kept.trans {s t u : State} (h : Kept s t) (k : Kept t u) : Kept s u :=
  ⟨k.cfg.trans h.cfg, k.addr.trans h.addr, k.addr2.trans h.addr2, k.len.trans h.len, k.arg.trans h.arg, k.cmd.trans h.cmd, k.smp.trans h.smp, k.rxRead.trans h.rxRead, k.env.trans h.env, k.xp.trans h.xp, k.busOut.trans h.busOut⟩

theorem Quiet.trans {s t u : State} (h : Quiet s t) (k : Quiet t u) : Quiet s u :=
  ⟨h.toKept.trans k.toKept, k.cksum.trans h.cksum, k.rx.trans h.rx, k.tm.trans h.tm, k.sr.trans h.sr, k.txUsed.trans h.txUsed, k.trace.trans h.trace⟩

theorem kept_trace (s : State) (es : List Event) : Kept s { s with trace := es } := by constructor <;> rfl

theorem quiet_todo (s : State) (ops : List Op) : Quiet s { s with todo := ops } := by constructor <;> first | rfl | constructor <;> rfl

theorem quiet_finish (r : Result) (s : State) : Quiet s (finish r s) := by constructor <;> first | simp | constructor <;> simp

theorem quiet_setFlag (f : Flag) (v : Bool) (s : State) : Quiet s (setFlag f v s) := by
  cases f <;> constructor <;> first | rfl | constructor <;> rfl

/-! ## settle -/

theorem quiet_pollLoop (p : PollSpec) (ops : List Op) (s : State) : Quiet s (pollLoop p ops s) := by
  rw [pollLoop_eq]
  split
  · exact quiet_finish _ _
  · exact quiet_todo _ _

@[simp] theorem pollLoop_cfg (p : PollSpec) (ops : List Op) (s : State) : (pollLoop p ops s).cfg = s.cfg :=
  (quiet_pollLoop p ops s).cfg

@[simp] theorem pollLoop_addr (p : PollSpec) (ops : List Op) (s : State) : (pollLoop p ops s).addr = s.addr :=
  (quiet_pollLoop p ops s).addr

@[simp] theorem pollLoop_addr2 (p : PollSpec) (ops : List Op) (s : State) : (pollLoop p ops s).addr2 = s.addr2 :=
  (quiet_pollLoop p ops s).addr2

@[simp] theorem pollLoop_len (p : PollSpec) (ops : List Op) (s : State) : (pollLoop p ops s).len = s.len :=
  (quiet_pollLoop p ops s).len

@[simp] theorem pollLoop_arg (p : PollSpec) (ops : List Op) (s : State) : (pollLoop p ops s).arg = s.arg :=
  (quiet_pollLoop p ops s).arg

@[simp] theorem pollLoop_cmd (p : PollSpec) (ops : List Op) (s : State) : (pollLoop p ops s).cmd = s.cmd :=
  (quiet_pollLoop p ops s).cmd

@[simp] theorem pollLoop_smp (p : PollSpec) (ops : List Op) (s : State) : (pollLoop p ops s).smp = s.smp :=
  (quiet_pollLoop p ops s).smp

@[simp] theorem pollLoop_rxRead (p : PollSpec) (ops : List Op) (s : State) : (pollLoop p ops s).rxRead = s.rxRead :=
  (quiet_pollLoop p ops s).rxRead

@[simp] theorem pollLoop_env (p : PollSpec) (ops : List Op) (s : State) : (pollLoop p ops s).env = s.env :=
  (quiet_pollLoop p ops s).env

@[simp] theorem pollLoop_xp (p : PollSpec) (ops : List Op) (s : State) : (pollLoop p ops s).xp = s.xp :=
  (quiet_pollLoop p ops s).xp

@[simp] theorem pollLoop_busOut (p : PollSpec) (ops : List Op) (s : State) : (pollLoop p ops s).busOut = s.busOut :=
  (quiet_pollLoop p ops s).busOut

@[simp] theorem pollLoop_cksum (p : PollSpec) (ops : List Op) (s : State) : (pollLoop p ops s).cksum = s.cksum :=
  (quiet_pollLoop p ops s).cksum

@[simp] theorem pollLoop_rx (p : PollSpec) (ops : List Op) (s : State) : (pollLoop p ops s).rx = s.rx :=
  (quiet_pollLoop p ops s).rx

@[simp] theorem pollLoop_tm (p : PollSpec) (ops : List Op) (s : State) : (pollLoop p ops s).tm = s.tm :=
  (quiet_pollLoop p ops s).tm

@[simp] theorem pollLoop_sr (p : PollSpec) (ops : List Op) (s : State) : (pollLoop p ops s).sr = s.sr :=
  (quiet_pollLoop p ops s).sr

@[simp] theorem pollLoop_txUsed (p : PollSpec) (ops : List Op) (s : State) : (pollLoop p ops s).txUsed = s.txUsed :=
  (quiet_pollLoop p ops s).txUsed

@[simp] theorem pollLoop_trace (p : PollSpec) (ops : List Op) (s : State) : (pollLoop p ops s).trace = s.trace :=
  (quiet_pollLoop p ops s).trace

/-- A state that differs from `s` in what steps without a call write only. -/
theorem quiet_work (s : State) (l : Byte) (n off rem srci : Word) :
    Quiet s { s with lastSr := l, n := n, off := off, rem := rem, srci := srci } := by
  constructor <;> first | rfl | constructor <;> rfl

theorem quiet_settle (ops : List Op) (s : State) : Quiet s (settle ops s) := by
  induction ops generalizing s with
  | nil => exact quiet_todo s []
  | cons op rest ih =>
    cases op <;> simp only [settle, raiseError_closed] <;> (repeat' split) <;>
      first
      | exact quiet_todo _ _
      | exact quiet_finish _ _
      | exact ih _
      | exact (quiet_setFlag _ _ s).trans (ih _)
      | exact (quiet_work s _ _ _ _ _).trans (ih _)
      | exact (quiet_work s _ _ _ _ _).trans (quiet_pollLoop _ _ _)

@[simp] theorem settle_cfg (ops : List Op) (s : State) : (settle ops s).cfg = s.cfg :=
  (quiet_settle ops s).cfg

@[simp] theorem settle_addr (ops : List Op) (s : State) : (settle ops s).addr = s.addr :=
  (quiet_settle ops s).addr

@[simp] theorem settle_addr2 (ops : List Op) (s : State) : (settle ops s).addr2 = s.addr2 :=
  (quiet_settle ops s).addr2

@[simp] theorem settle_len (ops : List Op) (s : State) : (settle ops s).len = s.len :=
  (quiet_settle ops s).len

@[simp] theorem settle_arg (ops : List Op) (s : State) : (settle ops s).arg = s.arg :=
  (quiet_settle ops s).arg

@[simp] theorem settle_cmd (ops : List Op) (s : State) : (settle ops s).cmd = s.cmd :=
  (quiet_settle ops s).cmd

@[simp] theorem settle_smp (ops : List Op) (s : State) : (settle ops s).smp = s.smp :=
  (quiet_settle ops s).smp

@[simp] theorem settle_rxRead (ops : List Op) (s : State) : (settle ops s).rxRead = s.rxRead :=
  (quiet_settle ops s).rxRead

@[simp] theorem settle_env (ops : List Op) (s : State) : (settle ops s).env = s.env :=
  (quiet_settle ops s).env

@[simp] theorem settle_xp (ops : List Op) (s : State) : (settle ops s).xp = s.xp :=
  (quiet_settle ops s).xp

@[simp] theorem settle_busOut (ops : List Op) (s : State) : (settle ops s).busOut = s.busOut :=
  (quiet_settle ops s).busOut

@[simp] theorem settle_cksum (ops : List Op) (s : State) : (settle ops s).cksum = s.cksum :=
  (quiet_settle ops s).cksum

@[simp] theorem settle_rx (ops : List Op) (s : State) : (settle ops s).rx = s.rx :=
  (quiet_settle ops s).rx

@[simp] theorem settle_tm (ops : List Op) (s : State) : (settle ops s).tm = s.tm :=
  (quiet_settle ops s).tm

@[simp] theorem settle_sr (ops : List Op) (s : State) : (settle ops s).sr = s.sr :=
  (quiet_settle ops s).sr

@[simp] theorem settle_txUsed (ops : List Op) (s : State) : (settle ops s).txUsed = s.txUsed :=
  (quiet_settle ops s).txUsed

@[simp] theorem settle_trace (ops : List Op) (s : State) : (settle ops s).trace = s.trace :=
  (quiet_settle ops s).trace

/-- A list of items that makes no call at its head settles to one that does, to the command's end, or to nothing. -/
theorem settle_finish (r : Result) (rest : List Op) (s : State) : settle (.finish r :: rest) s = finish r s := rfl

/-! ## Answers -/

theorem kept_accept (op : Op) (acts : Actions) (a : XferAns) (s : State) : Kept s (accept op acts a s) := by
  unfold accept; split <;> (try split) <;> constructor <;> rfl

@[simp] theorem accept_cfg (op : Op) (acts : Actions) (a : XferAns) (s : State) :
    (accept op acts a s).cfg = s.cfg := (kept_accept op acts a s).cfg

@[simp] theorem accept_addr (op : Op) (acts : Actions) (a : XferAns) (s : State) :
    (accept op acts a s).addr = s.addr := (kept_accept op acts a s).addr

@[simp] theorem accept_addr2 (op : Op) (acts : Actions) (a : XferAns) (s : State) :
    (accept op acts a s).addr2 = s.addr2 := (kept_accept op acts a s).addr2

@[simp] theorem accept_len (op : Op) (acts : Actions) (a : XferAns) (s : State) :
    (accept op acts a s).len = s.len := (kept_accept op acts a s).len

@[simp] theorem accept_arg (op : Op) (acts : Actions) (a : XferAns) (s : State) :
    (accept op acts a s).arg = s.arg := (kept_accept op acts a s).arg

@[simp] theorem accept_cmd (op : Op) (acts : Actions) (a : XferAns) (s : State) :
    (accept op acts a s).cmd = s.cmd := (kept_accept op acts a s).cmd

@[simp] theorem accept_smp (op : Op) (acts : Actions) (a : XferAns) (s : State) :
    (accept op acts a s).smp = s.smp := (kept_accept op acts a s).smp

@[simp] theorem accept_rxRead (op : Op) (acts : Actions) (a : XferAns) (s : State) :
    (accept op acts a s).rxRead = s.rxRead := (kept_accept op acts a s).rxRead

@[simp] theorem accept_env (op : Op) (acts : Actions) (a : XferAns) (s : State) :
    (accept op acts a s).env = s.env := (kept_accept op acts a s).env

@[simp] theorem accept_xp (op : Op) (acts : Actions) (a : XferAns) (s : State) :
    (accept op acts a s).xp = s.xp := (kept_accept op acts a s).xp

@[simp] theorem accept_busOut (op : Op) (acts : Actions) (a : XferAns) (s : State) :
    (accept op acts a s).busOut = s.busOut := (kept_accept op acts a s).busOut

theorem kept_answerTransfer (op : Op) (rest : List Op) (a : XferAns) (s : State) :
    Kept s (answerTransfer op rest a s) := by
  unfold answerTransfer
  (repeat' split) <;>
    first
    | exact (quiet_settle _ s).toKept
    | exact (quiet_todo s _).toKept
    | exact (kept_accept _ _ _ s).trans (quiet_settle _ _).toKept

@[simp] theorem answerTransfer_cfg (op : Op) (rest : List Op) (a : XferAns) (s : State) :
    (answerTransfer op rest a s).cfg = s.cfg := (kept_answerTransfer op rest a s).cfg

@[simp] theorem answerTransfer_addr (op : Op) (rest : List Op) (a : XferAns) (s : State) :
    (answerTransfer op rest a s).addr = s.addr := (kept_answerTransfer op rest a s).addr

@[simp] theorem answerTransfer_addr2 (op : Op) (rest : List Op) (a : XferAns) (s : State) :
    (answerTransfer op rest a s).addr2 = s.addr2 := (kept_answerTransfer op rest a s).addr2

@[simp] theorem answerTransfer_len (op : Op) (rest : List Op) (a : XferAns) (s : State) :
    (answerTransfer op rest a s).len = s.len := (kept_answerTransfer op rest a s).len

@[simp] theorem answerTransfer_arg (op : Op) (rest : List Op) (a : XferAns) (s : State) :
    (answerTransfer op rest a s).arg = s.arg := (kept_answerTransfer op rest a s).arg

@[simp] theorem answerTransfer_cmd (op : Op) (rest : List Op) (a : XferAns) (s : State) :
    (answerTransfer op rest a s).cmd = s.cmd := (kept_answerTransfer op rest a s).cmd

@[simp] theorem answerTransfer_smp (op : Op) (rest : List Op) (a : XferAns) (s : State) :
    (answerTransfer op rest a s).smp = s.smp := (kept_answerTransfer op rest a s).smp

@[simp] theorem answerTransfer_rxRead (op : Op) (rest : List Op) (a : XferAns) (s : State) :
    (answerTransfer op rest a s).rxRead = s.rxRead := (kept_answerTransfer op rest a s).rxRead

@[simp] theorem answerTransfer_env (op : Op) (rest : List Op) (a : XferAns) (s : State) :
    (answerTransfer op rest a s).env = s.env := (kept_answerTransfer op rest a s).env

@[simp] theorem answerTransfer_xp (op : Op) (rest : List Op) (a : XferAns) (s : State) :
    (answerTransfer op rest a s).xp = s.xp := (kept_answerTransfer op rest a s).xp

@[simp] theorem answerTransfer_busOut (op : Op) (rest : List Op) (a : XferAns) (s : State) :
    (answerTransfer op rest a s).busOut = s.busOut := (kept_answerTransfer op rest a s).busOut

theorem kept_answerHead (op : Op) (rest : List Op) (c : Call) (a : Answer) (s : State) :
    Kept s (answerHead op rest c a s) := by
  have mode (m : Mode) : Kept s { s with tm := m } := by constructor <;> rfl
  unfold answerHead
  (repeat' split) <;>
    first
    | exact (quiet_settle _ s).toKept
    | exact (quiet_finish _ s).toKept
    | exact (quiet_todo s _).toKept
    | exact kept_answerTransfer _ _ _ s
    | exact (mode _).trans (quiet_settle _ _).toKept
    | exact (quiet_work s _ _ _ _ _).toKept.trans (quiet_settle _ _).toKept
    | exact (quiet_work s _ _ _ _ _).toKept.trans (quiet_finish _ _).toKept

theorem kept_answerCall (c : Call) (a : Answer) (s : State) : Kept s (answerCall c a s) := by
  unfold answerCall
  split
  · exact kept_trace s _
  · exact (kept_trace s _).trans (kept_answerHead _ _ _ _ _)

@[simp] theorem answerCall_cfg (c : Call) (a : Answer) (s : State) :
    (answerCall c a s).cfg = s.cfg := (kept_answerCall c a s).cfg

@[simp] theorem answerCall_addr (c : Call) (a : Answer) (s : State) :
    (answerCall c a s).addr = s.addr := (kept_answerCall c a s).addr

@[simp] theorem answerCall_addr2 (c : Call) (a : Answer) (s : State) :
    (answerCall c a s).addr2 = s.addr2 := (kept_answerCall c a s).addr2

@[simp] theorem answerCall_len (c : Call) (a : Answer) (s : State) :
    (answerCall c a s).len = s.len := (kept_answerCall c a s).len

@[simp] theorem answerCall_arg (c : Call) (a : Answer) (s : State) :
    (answerCall c a s).arg = s.arg := (kept_answerCall c a s).arg

@[simp] theorem answerCall_cmd (c : Call) (a : Answer) (s : State) :
    (answerCall c a s).cmd = s.cmd := (kept_answerCall c a s).cmd

@[simp] theorem answerCall_smp (c : Call) (a : Answer) (s : State) :
    (answerCall c a s).smp = s.smp := (kept_answerCall c a s).smp

@[simp] theorem answerCall_rxRead (c : Call) (a : Answer) (s : State) :
    (answerCall c a s).rxRead = s.rxRead := (kept_answerCall c a s).rxRead

@[simp] theorem answerCall_env (c : Call) (a : Answer) (s : State) :
    (answerCall c a s).env = s.env := (kept_answerCall c a s).env

@[simp] theorem answerCall_xp (c : Call) (a : Answer) (s : State) :
    (answerCall c a s).xp = s.xp := (kept_answerCall c a s).xp

@[simp] theorem answerCall_busOut (c : Call) (a : Answer) (s : State) :
    (answerCall c a s).busOut = s.busOut := (kept_answerCall c a s).busOut

@[simp] theorem accept_trace (op : Op) (acts : Actions) (a : XferAns) (s : State) :
    (accept op acts a s).trace = s.trace := by
  unfold accept; split <;> (try split) <;> simp

@[simp] theorem answerTransfer_trace (op : Op) (rest : List Op) (a : XferAns) (s : State) :
    (answerTransfer op rest a s).trace = s.trace := by
  unfold answerTransfer; (repeat' split) <;> simp [xferFail_eq]

@[simp] theorem answerHead_trace (op : Op) (rest : List Op) (c : Call) (a : Answer) (s : State) :
    (answerHead op rest c a s).trace = s.trace := by
  unfold answerHead; (repeat' split) <;> simp [xferFail_eq, raiseError_closed]

@[simp] theorem answerCall_trace (c : Call) (a : Answer) (s : State) :
    (answerCall c a s).trace = s.trace ++ [{ call := c, reply := replyTo c a }] := by
  unfold answerCall; simp only []; split <;> simp

/-! ## Runs -/

theorem drive_nil (s : State) : drive [] s = { s with xp := [] } := rfl

theorem drive_stuck {s : State} (h : pendingCall s = none) (as : List Answer) : drive as s = { s with xp := as } := by
  cases as <;> simp [drive, h]

theorem drive_call {s : State} {c : Call} (h : pendingCall s = some c) (a : Answer) (as : List Answer) :
    drive (a :: as) s = drive as (answerCall c a s) := by simp [drive, h]

/-- The induction principle of a run: what holds at the start and is kept by the answer to the call SEQ is making, and by
putting the answers left over back, holds at the end. -/
theorem drive_induct {P : State → Prop} (hx : ∀ s as, P s → P { s with xp := as })
    (hc : ∀ s c a, pendingCall s = some c → P s → P (answerCall c a s)) :
    ∀ (as : List Answer) (s : State), P s → P (drive as s)
  | [], s, h => hx s [] h
  | a :: as, s, h => by
    cases hp : pendingCall s with
    | none => rw [drive_stuck hp]; exact hx s _ h
    | some c => rw [drive_call hp]; exact drive_induct hx hc as _ (hc s c a hp h)


@[simp] theorem drive_cfg (as : List Answer) (s : State) : (drive as s).cfg = s.cfg :=
  drive_induct (P := fun t => t.cfg = s.cfg) (fun _ _ h => h) (fun t c a _ h => by simp [h]) as s rfl

@[simp] theorem drive_addr (as : List Answer) (s : State) : (drive as s).addr = s.addr :=
  drive_induct (P := fun t => t.addr = s.addr) (fun _ _ h => h) (fun t c a _ h => by simp [h]) as s rfl

@[simp] theorem drive_addr2 (as : List Answer) (s : State) : (drive as s).addr2 = s.addr2 :=
  drive_induct (P := fun t => t.addr2 = s.addr2) (fun _ _ h => h) (fun t c a _ h => by simp [h]) as s rfl

@[simp] theorem drive_len (as : List Answer) (s : State) : (drive as s).len = s.len :=
  drive_induct (P := fun t => t.len = s.len) (fun _ _ h => h) (fun t c a _ h => by simp [h]) as s rfl

@[simp] theorem drive_arg (as : List Answer) (s : State) : (drive as s).arg = s.arg :=
  drive_induct (P := fun t => t.arg = s.arg) (fun _ _ h => h) (fun t c a _ h => by simp [h]) as s rfl

@[simp] theorem drive_cmd (as : List Answer) (s : State) : (drive as s).cmd = s.cmd :=
  drive_induct (P := fun t => t.cmd = s.cmd) (fun _ _ h => h) (fun t c a _ h => by simp [h]) as s rfl

@[simp] theorem drive_smp (as : List Answer) (s : State) : (drive as s).smp = s.smp :=
  drive_induct (P := fun t => t.smp = s.smp) (fun _ _ h => h) (fun t c a _ h => by simp [h]) as s rfl

@[simp] theorem drive_rxRead (as : List Answer) (s : State) : (drive as s).rxRead = s.rxRead :=
  drive_induct (P := fun t => t.rxRead = s.rxRead) (fun _ _ h => h) (fun t c a _ h => by simp [h]) as s rfl

@[simp] theorem drive_env (as : List Answer) (s : State) : (drive as s).env = s.env :=
  drive_induct (P := fun t => t.env = s.env) (fun _ _ h => h) (fun t c a _ h => by simp [h]) as s rfl

@[simp] theorem drive_busOut (as : List Answer) (s : State) : (drive as s).busOut = s.busOut :=
  drive_induct (P := fun t => t.busOut = s.busOut) (fun _ _ h => h) (fun t c a _ h => by simp [h]) as s rfl

/-- A run only adds to the trace. -/
theorem drive_trace (as : List Answer) (s : State) : s.trace <+: (drive as s).trace :=
  drive_induct (P := fun t => s.trace <+: t.trace) (fun _ _ h => h)
    (fun t c a _ h => by simpa using h.trans (List.prefix_append _ _)) as s (List.prefix_refl _)

/-! ## Commands -/

/-- The descriptor of a command that is one descriptor's `Run` (41_sequencer_poller.md R151). -/
def primitiveDesc (i : Instr) (c : Cfg) : Option CmdDesc :=
  match i with
  | .writeEnable => some writeEnableDesc
  | .writeDisable => some writeDisableDesc
  | .readSr1 => some readSr1Desc
  | .readSr2 => some readSr2Desc
  | .readSr3 => some readSr3Desc
  | .writeSr1 => some writeSr1Desc
  | .writeSr2 => some writeSr2Desc
  | .writeSr3 => some writeSr3Desc
  | .readData => some (readDesc .readData)
  | .fastRead => some (readDesc .fastRead)
  | .readDualOut => some (readDesc .readDualOut)
  | .readDualIo => some (readDesc .readDualIo)
  | .readQuadOut => some (readDesc .readQuadOut)
  | .readQuadIo => some (readDesc .readQuadIo)
  | .readDtr => some (readDesc .readDtr)
  | .readDualIoDtr => some (readDesc .readDualIoDtr)
  | .readQuadIoDtr => some (readDesc .readQuadIoDtr)
  | .pageProgram => some (pageProgramDesc c)
  | .sectorErase => some sectorEraseDesc
  | .block32Erase => some block32EraseDesc
  | .block64Erase => some block64EraseDesc
  | .chipErase => some chipEraseDesc
  | .readJedecId => some (readJedecIdDesc c)
  | .readMfrId => some (readMfrIdDesc c)
  | .readUniqueId => some (readUniqueIdDesc c)
  | .secRead => some (secReadDesc c)
  | .secProgram => some (secProgramDesc c)
  | .secErase => some secEraseDesc
  | .enter4b => some enter4bDesc
  | .exit4b => some exit4bDesc
  | .exitQpi => some exitQpiDesc
  | .checksumCalc => some checksumCalcDesc
  | .checksumRead => some (checksumReadDesc c)
  | .pbClear => some pbClearDesc
  | .pbWrite => some pbWriteDesc
  | .pbRead => some pbReadDesc
  | .pbProgram => some pbProgramDesc
  | .pbLoad => some pbLoadDesc
  | .waitReady | .enterQpi | .dtrEnable | .dtrDisable | .softReset | .read | .write | .erase | .getId | .getStatus => none

/-- The checks of every command. -/
def checksOf (i : Instr) (c : Cfg) : List Check :=
  match i with
  | .waitReady => [.argAtMost 7]
  | .read => [.lenPositive, .addrFits]
  | .write => [.lenPositive, .rangeFits]
  | .erase => [.argAtMost 3, .addrFitsUnlessArg 3]
  | i => ((primitiveDesc i c).map (·.checks)).getD []

/-- The items of every command, the end of it apart. -/
def opsOf (i : Instr) (c : Cfg) (p : Sampled) : List Op :=
  match i with
  | .waitReady =>
    match budgetClassOf p.arg with
    | some k => [.poll (busyWait c k), .finish .ok]
    | none => [.finish .invalidArgument]
  | .enterQpi => bracketOps c p statusRead2Desc 0 0 0 ++ [.qeTest] ++ subOps c p enterQpiDesc 0 0 0 ++ [.finish .ok]
  | .dtrEnable => [.commit .dtrEn true, .finish .ok]
  | .dtrDisable => [.commit .dtrEn false, .finish .ok]
  | .softReset => subOps c p resetEnableDesc 0 0 0 ++ subOps c p resetDesc 0 0 0 ++ [.finish .ok]
  | .read => subOps c p (readDesc (readVariantOf c p)) p.addr 0 p.len.toNat ++ [.finish .ok]
  | .write => [.loadWrite, .chunk, .finish .ok]
  | .erase => subOps c p writeEnableDesc 0 0 0 ++ subOps c p (eraseDescOf p.arg) p.addr 0 0 ++ [.finish .ok]
  | .getId => subOps c p (readJedecIdDesc c) 0 0 0 ++ [.finish .ok]
  | .getStatus => subOps c p readSr1Desc 0 0 0 ++ [.finish .ok]
  | i =>
    match primitiveDesc i c with
    | some d => subOps c p d p.addr p.addr2 p.len.toNat ++ [.finish .ok]
    | none => []

/-- Every command's meaning is one sampling, its checks and its items. -/
theorem exec_eq (i : Instr) (s : State) : exec i s = runCommand i (checksOf i s.cfg) (opsOf i) s := by
  cases i <;> rfl

/-- What issuing a command can do: nothing while one runs; a refusal of the operands; or a run of its items. -/
theorem runCommand_cases (i : Instr) (ks : List Check) (ops : Cfg → Sampled → List Op) (s : State) :
    (s.run = true ∧ runCommand i ks ops s = .next s) ∨
    (s.run = false ∧ checksHold ks s.cfg (sampleAndClear i s).smp = false ∧
      runCommand i ks ops s = .next (finish .invalidArgument (sampleAndClear i s))) ∨
    (s.run = false ∧ checksHold ks s.cfg (sampleAndClear i s).smp = true ∧
      runCommand i ks ops s =
        .next (drive s.xp (settle (ops s.cfg (sampleAndClear i s).smp) (sampleAndClear i s)))) := by
  by_cases hr : s.run = true
  · exact .inl ⟨hr, by rw [runCommand, if_pos hr]⟩
  · have hr' : s.run = false := by simpa using hr
    by_cases hk : checksHold ks s.cfg (sampleAndClear i s).smp = true
    · refine .inr (.inr ⟨hr', hk, ?_⟩)
      rw [runCommand, if_neg hr]
      exact if_pos hk
    · refine .inr (.inl ⟨hr', by simpa using hk, ?_⟩)
      rw [runCommand, if_neg hr]
      exact if_neg hk

end Sys2Proof.Machine
end

