-- ==== Sys2Proof/Laws/PerInstr.lean ====
section
/-! SUPPORT. The families made per instruction: a command's code is its own. -/

namespace Sys2Proof.Laws

/-- The code of a command decodes to it, whatever bytes follow (30_encoding.md R91, R96). -/
def CodeIsOwn.Statement (i : Instr) : Prop :=
  (∀ rest, decode (encode i :: rest) = .ok (i, rest)) ∧ i.wellFormed = true ∧ decodeTableWord 8 (encode i).toNat = some i

theorem CodeIsOwn.writeEnable : CodeIsOwn.Statement .writeEnable := ⟨fun _ => rfl, rfl, by decide⟩
theorem CodeIsOwn.writeDisable : CodeIsOwn.Statement .writeDisable := ⟨fun _ => rfl, rfl, by decide⟩
theorem CodeIsOwn.readSr1 : CodeIsOwn.Statement .readSr1 := ⟨fun _ => rfl, rfl, by decide⟩
theorem CodeIsOwn.readSr2 : CodeIsOwn.Statement .readSr2 := ⟨fun _ => rfl, rfl, by decide⟩
theorem CodeIsOwn.readSr3 : CodeIsOwn.Statement .readSr3 := ⟨fun _ => rfl, rfl, by decide⟩
theorem CodeIsOwn.writeSr1 : CodeIsOwn.Statement .writeSr1 := ⟨fun _ => rfl, rfl, by decide⟩
theorem CodeIsOwn.writeSr2 : CodeIsOwn.Statement .writeSr2 := ⟨fun _ => rfl, rfl, by decide⟩
theorem CodeIsOwn.writeSr3 : CodeIsOwn.Statement .writeSr3 := ⟨fun _ => rfl, rfl, by decide⟩
theorem CodeIsOwn.waitReady : CodeIsOwn.Statement .waitReady := ⟨fun _ => rfl, rfl, by decide⟩
theorem CodeIsOwn.readData : CodeIsOwn.Statement .readData := ⟨fun _ => rfl, rfl, by decide⟩
theorem CodeIsOwn.fastRead : CodeIsOwn.Statement .fastRead := ⟨fun _ => rfl, rfl, by decide⟩
theorem CodeIsOwn.readDualOut : CodeIsOwn.Statement .readDualOut := ⟨fun _ => rfl, rfl, by decide⟩
theorem CodeIsOwn.readDualIo : CodeIsOwn.Statement .readDualIo := ⟨fun _ => rfl, rfl, by decide⟩
theorem CodeIsOwn.readQuadOut : CodeIsOwn.Statement .readQuadOut := ⟨fun _ => rfl, rfl, by decide⟩
theorem CodeIsOwn.readQuadIo : CodeIsOwn.Statement .readQuadIo := ⟨fun _ => rfl, rfl, by decide⟩
theorem CodeIsOwn.readDtr : CodeIsOwn.Statement .readDtr := ⟨fun _ => rfl, rfl, by decide⟩
theorem CodeIsOwn.readDualIoDtr : CodeIsOwn.Statement .readDualIoDtr := ⟨fun _ => rfl, rfl, by decide⟩
theorem CodeIsOwn.readQuadIoDtr : CodeIsOwn.Statement .readQuadIoDtr := ⟨fun _ => rfl, rfl, by decide⟩
theorem CodeIsOwn.pageProgram : CodeIsOwn.Statement .pageProgram := ⟨fun _ => rfl, rfl, by decide⟩
theorem CodeIsOwn.sectorErase : CodeIsOwn.Statement .sectorErase := ⟨fun _ => rfl, rfl, by decide⟩
theorem CodeIsOwn.block32Erase : CodeIsOwn.Statement .block32Erase := ⟨fun _ => rfl, rfl, by decide⟩
theorem CodeIsOwn.block64Erase : CodeIsOwn.Statement .block64Erase := ⟨fun _ => rfl, rfl, by decide⟩
theorem CodeIsOwn.chipErase : CodeIsOwn.Statement .chipErase := ⟨fun _ => rfl, rfl, by decide⟩
theorem CodeIsOwn.readJedecId : CodeIsOwn.Statement .readJedecId := ⟨fun _ => rfl, rfl, by decide⟩
theorem CodeIsOwn.readMfrId : CodeIsOwn.Statement .readMfrId := ⟨fun _ => rfl, rfl, by decide⟩
theorem CodeIsOwn.readUniqueId : CodeIsOwn.Statement .readUniqueId := ⟨fun _ => rfl, rfl, by decide⟩
theorem CodeIsOwn.secRead : CodeIsOwn.Statement .secRead := ⟨fun _ => rfl, rfl, by decide⟩
theorem CodeIsOwn.secProgram : CodeIsOwn.Statement .secProgram := ⟨fun _ => rfl, rfl, by decide⟩
theorem CodeIsOwn.secErase : CodeIsOwn.Statement .secErase := ⟨fun _ => rfl, rfl, by decide⟩
theorem CodeIsOwn.enter4b : CodeIsOwn.Statement .enter4b := ⟨fun _ => rfl, rfl, by decide⟩
theorem CodeIsOwn.exit4b : CodeIsOwn.Statement .exit4b := ⟨fun _ => rfl, rfl, by decide⟩
theorem CodeIsOwn.enterQpi : CodeIsOwn.Statement .enterQpi := ⟨fun _ => rfl, rfl, by decide⟩
theorem CodeIsOwn.exitQpi : CodeIsOwn.Statement .exitQpi := ⟨fun _ => rfl, rfl, by decide⟩
theorem CodeIsOwn.dtrEnable : CodeIsOwn.Statement .dtrEnable := ⟨fun _ => rfl, rfl, by decide⟩
theorem CodeIsOwn.dtrDisable : CodeIsOwn.Statement .dtrDisable := ⟨fun _ => rfl, rfl, by decide⟩
theorem CodeIsOwn.softReset : CodeIsOwn.Statement .softReset := ⟨fun _ => rfl, rfl, by decide⟩
theorem CodeIsOwn.checksumCalc : CodeIsOwn.Statement .checksumCalc := ⟨fun _ => rfl, rfl, by decide⟩
theorem CodeIsOwn.checksumRead : CodeIsOwn.Statement .checksumRead := ⟨fun _ => rfl, rfl, by decide⟩
theorem CodeIsOwn.pbClear : CodeIsOwn.Statement .pbClear := ⟨fun _ => rfl, rfl, by decide⟩
theorem CodeIsOwn.pbWrite : CodeIsOwn.Statement .pbWrite := ⟨fun _ => rfl, rfl, by decide⟩
theorem CodeIsOwn.pbRead : CodeIsOwn.Statement .pbRead := ⟨fun _ => rfl, rfl, by decide⟩
theorem CodeIsOwn.pbProgram : CodeIsOwn.Statement .pbProgram := ⟨fun _ => rfl, rfl, by decide⟩
theorem CodeIsOwn.pbLoad : CodeIsOwn.Statement .pbLoad := ⟨fun _ => rfl, rfl, by decide⟩
theorem CodeIsOwn.read : CodeIsOwn.Statement .read := ⟨fun _ => rfl, rfl, by decide⟩
theorem CodeIsOwn.write : CodeIsOwn.Statement .write := ⟨fun _ => rfl, rfl, by decide⟩
theorem CodeIsOwn.erase : CodeIsOwn.Statement .erase := ⟨fun _ => rfl, rfl, by decide⟩
theorem CodeIsOwn.getId : CodeIsOwn.Statement .getId := ⟨fun _ => rfl, rfl, by decide⟩
theorem CodeIsOwn.getStatus : CodeIsOwn.Statement .getStatus := ⟨fun _ => rfl, rfl, by decide⟩

end Sys2Proof.Laws
end

