-- ==== Sys2Proof/Laws/Wire.lean ====
section
/-! SUPPORT. The sequencer against the wire: a list of `Op`s, run against answers that meet the calls of a list of wire
items, makes those calls and leaves what they say. `Runs` is that relation, with one lemma for each way a list of items
is built; statements about whole commands follow from `Runs` of their items. -/

namespace Sys2Proof.Machine

/-! ## Answers that meet calls -/

theorem meets_nil (c : Cfg) (as : List Answer) : meets c [] as = true ↔ as = [] := by
  cases as <;> simp [meets]

theorem meets_cons (c : Cfg) (k : WireCall) (cs : List WireCall) (as : List Answer) :
    meets c (k :: cs) as = true ↔ ∃ a as', as = a :: as' ∧ k.role.met c a = true ∧ meets c cs as' = true := by
  cases as with
  | nil => simp [meets]
  | cons a as' =>
    simp only [meets, List.length_cons, List.zip_cons_cons, List.all_cons, Bool.and_eq_true, beq_iff_eq,
      Nat.add_right_cancel_iff]
    constructor
    · rintro ⟨h1, h2, h3⟩; exact ⟨a, as', rfl, h2, h1, h3⟩
    · rintro ⟨_, _, h, h2, h1, h3⟩; cases h; exact ⟨h1, h2, h3⟩

theorem meets_append (c : Cfg) (cs cs' : List WireCall) (as : List Answer) :
    meets c (cs ++ cs') as = true ↔
      ∃ as1 as2, as = as1 ++ as2 ∧ meets c cs as1 = true ∧ meets c cs' as2 = true := by
  induction cs generalizing as with
  | nil => simp [meets_nil]
  | cons k cs ih =>
    simp only [List.cons_append, meets_cons, ih]
    constructor
    · rintro ⟨a, _, rfl, h1, as1, as2, rfl, h2, h3⟩
      exact ⟨a :: as1, as2, rfl, ⟨a, as1, rfl, h1, h2⟩, h3⟩
    · rintro ⟨_, as2, rfl, ⟨a, as1, rfl, h1, h2⟩, h3⟩
      exact ⟨a, as1 ++ as2, rfl, h1, as1, as2, rfl, h2, h3⟩

theorem meets_length {c : Cfg} {cs : List WireCall} {as : List Answer} (h : meets c cs as = true) :
    cs.length = as.length := by
  simp only [meets, Bool.and_eq_true, beq_iff_eq] at h; exact h.1

theorem prompt_iff (a : Answer) : prompt a = true ↔ a.call = .ok ∧ a.xfer = .done (byteOf a) := by
  unfold prompt byteOf
  cases h : a.xfer <;> simp

/-- Roles met only by an accepting answer: all but the assisted poll's and the declined byte's. -/
def Role.prompts (r : Role) : Bool :=
  match r with
  | .matched => false
  | .declined => false
  | _ => true

/-- An answer that meets such a role accepts the call. -/
theorem Role.met_prompt {c : Cfg} {r : Role} {a : Answer} (hr : r.prompts = true) (h : r.met c a = true) :
    a.call = .ok ∧ a.xfer = .done (byteOf a) := by
  rw [← prompt_iff]
  cases r <;> simp_all [Role.met, Role.prompts]

/-! ## What calls and answers add up to -/

theorem modeAfter_append (tm : Mode) (cs cs' : List WireCall) :
    modeAfter tm (cs ++ cs') = modeAfter (modeAfter tm cs) cs' := by simp [modeAfter]

theorem capturedBytes_append {cs cs' : List WireCall} {as as' : List Answer} (h : cs.length = as.length) :
    capturedBytes (cs ++ cs') (as ++ as') = capturedBytes cs as ++ capturedBytes cs' as' := by
  simp [capturedBytes, List.zip_append h]

theorem traceOf_append {cs cs' : List WireCall} {as as' : List Answer} (h : cs.length = as.length) :
    traceOf (cs ++ cs') (as ++ as') = traceOf cs as ++ traceOf cs' as' := by
  simp [traceOf, List.zip_append h]

theorem lastByte_append (f : Role → Answer → Option Byte) {cs cs' : List WireCall} {as as' : List Answer}
    (h : cs.length = as.length) (old : Byte) :
    lastByte f (cs ++ cs') (as ++ as') old = lastByte f cs' as' (lastByte f cs as old) := by
  simp only [lastByte, List.zip_append h, List.filterMap_append, List.getLast?_append]
  cases (List.filterMap (fun x => f x.1.role x.2) (cs'.zip as')).getLast? <;> simp

/-- `RXpush` of some bytes, as far as CKSUM goes. -/
def sumInto (bits : Nat) (w : Word) (bs : List Byte) : Word :=
  bs.foldl (fun w b => BitVec.ofNat 32 ((w.toNat + b.toNat) % 2 ^ bits)) w

theorem sumInto_append (bits : Nat) (w : Word) (bs bs' : List Byte) :
    sumInto bits w (bs ++ bs') = sumInto bits (sumInto bits w bs) bs' := by simp [sumInto]

/-- Adding byte by byte from 0 is the checksum of the whole. -/
theorem sumInto_zero (bits : Nat) (bs : List Byte) : sumInto bits 0 bs = checksum bits bs := by
  have key : ∀ (bs : List Byte) (n : Nat),
      sumInto bits (BitVec.ofNat 32 (n % 2 ^ bits)) bs = BitVec.ofNat 32 ((n + (bs.map (·.toNat)).sum) % 2 ^ bits) := by
    intro bs
    induction bs with
    | nil => intro n; simp [sumInto]
    | cons b bs ih =>
      intro n
      have step : BitVec.ofNat 32 (((BitVec.ofNat 32 (n % 2 ^ bits)).toNat + b.toNat) % 2 ^ bits) =
          BitVec.ofNat 32 ((n + b.toNat) % 2 ^ bits) := by
        apply BitVec.eq_of_toNat_eq
        simp only [BitVec.toNat_ofNat]
        rcases Nat.le_total bits 32 with hb | hb
        · have hd : (2 : Nat) ^ bits ∣ 2 ^ 32 := Nat.pow_dvd_pow 2 hb
          have hlt : n % 2 ^ bits % 2 ^ 32 = n % 2 ^ bits :=
            Nat.mod_eq_of_lt (Nat.lt_of_lt_of_le (Nat.mod_lt _ (Nat.two_pow_pos _)) (Nat.le_of_dvd (Nat.two_pow_pos _) hd))
          rw [hlt, Nat.mod_add_mod]
        · have hd : (2 : Nat) ^ 32 ∣ 2 ^ bits := Nat.pow_dvd_pow 2 hb
          rw [Nat.mod_mod_of_dvd _ hd, Nat.mod_mod_of_dvd _ hd, Nat.mod_mod_of_dvd _ hd, Nat.mod_add_mod]
      have := ih (n + b.toNat)
      simp only [sumInto, List.foldl_cons, List.map_cons, List.sum_cons] at this ⊢
      rw [step, this, Nat.add_assoc]
  have := key bs 0
  simpa [checksum] using this

/-- What some calls, answered, leave in the block apart from the flags and the poll registers; `m` bytes of TX were handed
over. -/
def State.did (s : State) (cs : List WireCall) (as : List Answer) (m : Nat) : State :=
  { s with
    tm := modeAfter s.tm cs
    rx := s.rx ++ capturedBytes cs as
    cksum := sumInto s.cfg.cksumBits s.cksum (capturedBytes cs as)
    sr := lastByte Role.kept cs as s.sr
    txFifo := s.txFifo.drop m
    txUsed := s.txUsed + m
    trace := s.trace ++ traceOf cs as }

theorem did_nil (s : State) : s.did [] [] 0 = s := by
  simp [State.did, modeAfter, capturedBytes, sumInto, lastByte, traceOf]

theorem did_append (s : State) {cs cs' : List WireCall} {as as' : List Answer} (h : cs.length = as.length) (m m' : Nat) :
    s.did (cs ++ cs') (as ++ as') (m + m') = (s.did cs as m).did cs' as' m' := by
  simp only [State.did, modeAfter_append, capturedBytes_append h, sumInto_append, lastByte_append _ h, traceOf_append h,
    List.append_assoc, List.drop_drop, Nat.add_assoc]

@[simp] theorem did_cfg (s : State) (cs : List WireCall) (as : List Answer) (m : Nat) : (s.did cs as m).cfg = s.cfg := rfl
@[simp] theorem did_smp (s : State) (cs : List WireCall) (as : List Answer) (m : Nat) : (s.did cs as m).smp = s.smp := rfl
@[simp] theorem did_tm (s : State) (cs : List WireCall) (as : List Answer) (m : Nat) :
    (s.did cs as m).tm = modeAfter s.tm cs := rfl
@[simp] theorem did_txFifo (s : State) (cs : List WireCall) (as : List Answer) (m : Nat) :
    (s.did cs as m).txFifo = s.txFifo.drop m := rfl

/-! ## The mode latched -/

theorem modeAfter_ensureCalls (data : Bool) (tm want : Mode) : modeAfter tm (ensureCalls data tm want) = want := by
  unfold ensureCalls; split <;> simp_all [modeAfter]

theorem modeAfter_transfer (tm : Mode) (b : Byte) (w : Bool) (r : Role) (d e : Bool) :
    modeAfter tm [{ call := .transfer b w, role := r, data := d, retry := e }] = tm := rfl

theorem modeAfter_presetCalls (b : Byte) (tm : Mode) (modes : List Mode) :
    modeAfter tm (presetCalls b tm modes) = (modes.getLast?.map Mode.norm).getD tm := by
  induction modes generalizing tm with
  | nil => rfl
  | cons m ms ih =>
    rw [presetCalls, List.append_cons, modeAfter_append, modeAfter_append, modeAfter_ensureCalls, modeAfter_transfer, ih]
    cases ms with
    | nil => simp
    | cons m' ms => simp [List.getLast?_cons]

theorem modeAfter_calls_phase (c : Cfg) (tm : Mode) (pd : PD) (tx : Byte) (role : Role) (data : Bool) :
    modeAfter tm (WireItem.calls c tm (.phase pd tx role data)) = WireItem.after c tm (.phase pd tx role data) := by
  simp only [WireItem.calls, WireItem.after, modeAfter_append]
  have h : modeAfter tm (if pd.dummy = .none then
      ensureCalls data tm pd.want ++
        [{ call := .transfer tx pd.actions.wait, role := role, data := data, retry := pd.actions.rsucc }]
     else presetCalls c.dummyByte tm (c.dummyModes pd.dummy)) = latched c tm pd := by
    unfold latched
    split
    · rw [modeAfter_append, modeAfter_ensureCalls, modeAfter_transfer]
    · exact modeAfter_presetCalls _ _ _
  rw [h]
  split
  · exact modeAfter_ensureCalls _ _ _
  · rfl

/-- The mode latched after some items. -/
def wireTm (c : Cfg) (tm : Mode) (ws : List WireItem) : Mode := ws.foldl (WireItem.after c) tm

theorem wireCalls_append (c : Cfg) (tm : Mode) (ws ws' : List WireItem) :
    wireCalls c tm (ws ++ ws') = wireCalls c tm ws ++ wireCalls c (wireTm c tm ws) ws' := by
  induction ws generalizing tm with
  | nil => rfl
  | cons w ws ih => simp [wireCalls, ih, wireTm]

/-! ## The step of one call -/

theorem settle_todo (ops x : List Op) (s : State) : settle ops { s with todo := x } = settle ops s := by
  induction ops generalizing s x with
  | nil => rfl
  | cons op rest ih =>
    have hf : ∀ f v, setFlag f v { s with todo := x } = { setFlag f v s with todo := x } := by
      intro f v; cases f <;> rfl
    cases op <;> simp only [settle, hf, ih]
    case poll p => split <;> rfl
    case pollTest p => split
                       · exact ih x { s with lastSr := s.sr, n := s.n + 1 }
                       · rfl
    case qeTest => split <;> rfl
    case loadWrite => exact ih x { s with off := s.smp.addr, rem := s.smp.len, srci := 0 }
    case advance z => exact ih x (advanceChunk z s)
    case finish r => rfl

/-- An item that performs a phase and is due is what SEQ is at. -/
theorem settle_due {op : Op} {s : State} (h : (opPhase s op).isSome = true) (hd : due op = true) (k : List Op) :
    settle (op :: k) s = { s with todo := op :: k } := by
  cases op <;> simp_all [opPhase, due, settle]

theorem opCall_phase {op : Op} {s : State} {pd : PD} {b : Byte} (h : opPhase s op = some (pd, b)) :
    opCall s op = some (ensuring s pd.want (.transfer b pd.actions.wait)) := by
  cases op <;> simp_all [opPhase, opCall]

theorem answerTransfer_done {op : Op} {s : State} {pd : PD} {b : Byte} (h : opPhase s op = some (pd, b)) (r : Byte)
    (k : List Op) :
    answerTransfer op k (.done r) s =
      settle ((if pd.actions.modeOff then [.modeOff (opPos op)] else []) ++ afterAccept op ++ k)
        (accept op pd.actions (.done r) s) := by
  have hp : ∃ x, phaseRet pd.actions (.done r) = some x ∧ x ≠ .success false := by
    cases h1 : pd.actions.rsucc <;> cases h2 : pd.actions.discard <;> simp [phaseRet, h1, h2]
  obtain ⟨x, hx, hne⟩ := hp
  have : answerTransfer op k (.done r) s = match opPhase s op with
      | none => s
      | some (pd, _) =>
        match phaseRet pd.actions (.done r) with
        | none => xferFail op s
        | some (.success false) => s
        | some _ =>
          settle ((if pd.actions.modeOff then [.modeOff (opPos op)] else []) ++ afterAccept op ++ k)
            (accept op pd.actions (.done r) s) := by
    cases op <;> first | rfl | simp [opPhase] at h
  rw [this, h]
  simp only [hx]

/-! ## Runs -/

/-- Run against answers that meet the calls of `ws`, the items `ops` make those calls and leave the items `mid` to do, and
the bytes `tx` of the FIFO are used up. -/
structure RunsTo (c : Cfg) (p : Sampled) (ops : List Op) (ws : List WireItem) (tx : List Byte) (mid : List Op) : Prop where
  mode : ∀ tm, modeAfter tm (wireCalls c tm ws) = wireTm c tm ws
  runs : ∀ (s : State) (as rest : List Answer) (k : List Op), s.cfg = c → s.smp = p → tx <+: s.txFifo →
    meets c (wireCalls c s.tm ws) as = true →
    drive (as ++ rest) (settle (ops ++ k) s) = drive rest (settle (mid ++ k) (s.did (wireCalls c s.tm ws) as tx.length))

/-- `RunsTo` with nothing of the items left. -/
abbrev Runs (c : Cfg) (p : Sampled) (ops : List Op) (ws : List WireItem) (tx : List Byte) : Prop := RunsTo c p ops ws tx []

theorem RunsTo.skip {c : Cfg} {p : Sampled} {ops mid : List Op}
    (h : ∀ (s : State) (k : List Op), s.cfg = c → settle (ops ++ k) s = settle (mid ++ k) s) : RunsTo c p ops [] [] mid where
  mode _ := rfl
  runs s as rest k hc _ _ hm := by
    rw [wireCalls, meets_nil] at hm
    subst hm
    rw [wireCalls, List.length_nil, did_nil, List.nil_append, h s k hc]

theorem Runs.nil (c : Cfg) (p : Sampled) : Runs c p [] [] [] := .skip fun _ _ _ => rfl

theorem RunsTo.trans {c : Cfg} {p : Sampled} {ops mid end_ : List Op} {ws ws' : List WireItem} {tx tx' : List Byte}
    (h : RunsTo c p ops ws tx mid) (h' : RunsTo c p mid ws' tx' end_) : RunsTo c p ops (ws ++ ws') (tx ++ tx') end_ where
  mode tm := by rw [wireCalls_append, modeAfter_append, h.mode, h'.mode]; simp [wireTm]
  runs s as rest k hc hp ht hm := by
    rw [wireCalls_append] at hm ⊢
    obtain ⟨as1, as2, rfl, h1, h2⟩ := (meets_append ..).1 hm
    obtain ⟨f, hf⟩ := ht
    rw [List.append_assoc, h.runs s as1 _ k hc hp ⟨tx' ++ f, by rw [← hf, List.append_assoc]⟩ h1,
      h'.runs _ as2 rest k (by simpa using hc) (by simpa using hp) ?_ ?_, did_tm, h.mode, List.length_append,
      did_append _ (meets_length h1)]
    · rw [did_txFifo, ← hf, List.append_assoc, List.drop_left]; exact ⟨f, rfl⟩
    · rw [did_tm, h.mode]; exact h2

theorem Runs.append {c : Cfg} {p : Sampled} {ops ops' : List Op} {ws ws' : List WireItem} {tx tx' : List Byte}
    (h : Runs c p ops ws tx) (h' : Runs c p ops' ws' tx') : Runs c p (ops ++ ops') (ws ++ ws') (tx ++ tx') :=
  RunsTo.trans (mid := ops')
    ⟨h.mode, fun s as rest k hc hp ht hm => by rw [List.append_assoc, h.runs s as rest (ops' ++ k) hc hp ht hm]; rfl⟩ h'

/-- A call that an item makes at once and that is answered `Ok`. -/
theorem runs_select (c : Cfg) (p : Sampled) : Runs c p [.select] [.select] [] where
  mode _ := rfl
  runs s as rest k hc hp ht hm := by
    simp only [wireCalls, WireItem.calls, List.append_nil, meets_cons, meets_nil] at hm ⊢
    obtain ⟨a, _, rfl, h, rfl⟩ := hm
    have ha := (Role.met_prompt rfl h).1
    have hp : pendingCall { s with todo := .select :: k } = some .selectLow := rfl
    show drive (a :: rest) { s with todo := .select :: k } = _
    rw [drive_call hp]
    simp only [answerCall, answerHead, ha]
    rw [show (([] : List Op) ++ k) = k from rfl]
    rw [← settle_todo k (.select :: k) (s.did _ [a] _)]
    congr 2
    simp [State.did, modeAfter, capturedBytes, sumInto, lastByte, traceOf, Role.kept, replyTo, ha]

theorem runs_deselect (c : Cfg) (p : Sampled) : Runs c p [.deselect] [.deselect] [] where
  mode _ := rfl
  runs s as rest k hc hp ht hm := by
    simp only [wireCalls, WireItem.calls, List.append_nil, meets_cons, meets_nil] at hm ⊢
    obtain ⟨a, _, rfl, h, rfl⟩ := hm
    have ha := (Role.met_prompt rfl h).1
    have hp : pendingCall { s with todo := .deselect :: k } = some .selectHigh := rfl
    show drive (a :: rest) { s with todo := .deselect :: k } = _
    rw [drive_call hp]
    simp only [answerCall, answerHead, ha]
    rw [show (([] : List Op) ++ k) = k from rfl]
    rw [← settle_todo k (.deselect :: k) (s.did _ [a] _)]
    congr 2
    simp [State.did, modeAfter, capturedBytes, sumInto, lastByte, traceOf, Role.kept, replyTo, ha]

/-- A `configure` that an item needs before it can go on. -/
theorem drive_ensure {s : State} {op : Op} {k : List Op} {want : Mode} {t : Call} {data : Bool} {as rest : List Answer}
    (hcall : opCall s op = some (ensuring s want t))
    (hset : ∀ tm tr, settle (op :: k) { s with tm := tm, trace := tr } = { s with tm := tm, trace := tr, todo := op :: k })
    (hm : meets s.cfg (ensureCalls data s.tm want) as = true) :
    drive (as ++ rest) { s with todo := op :: k } =
      drive rest { s.did (ensureCalls data s.tm want) as 0 with todo := op :: k } := by
  unfold ensureCalls at hm ⊢
  by_cases ht : want = s.tm
  · rw [if_pos ht, meets_nil] at hm
    subst hm
    rw [if_pos ht, did_nil, List.nil_append]
  · rw [if_neg ht] at hm ⊢
    simp only [meets_cons, meets_nil] at hm
    obtain ⟨a, _, rfl, h, rfl⟩ := hm
    have ha := (Role.met_prompt rfl h).1
    have hp : pendingCall { s with todo := op :: k } = some (.configure want) := by
      have : opCall { s with todo := op :: k } op = opCall s op := by cases op <;> rfl
      show opCall { s with todo := op :: k } op = _
      rw [this, hcall, ensuring, if_neg (Ne.symm ht)]
    rw [List.cons_append, List.nil_append, drive_call hp]
    have : answerCall (.configure want) a { s with todo := op :: k } =
        { s.did [{ call := .configure want, role := .plain, data := data }] [a] 0 with todo := op :: k } := by
      simp only [answerCall, answerHead, ha]
      have := hset want (s.trace ++ [{ call := .configure want, reply := replyTo (.configure want) a }])
      rw [← settle_todo _ (op :: k)] at this
      rw [this]
      simp [State.did, modeAfter, capturedBytes, sumInto, lastByte, traceOf, Role.kept]
    rw [this]

theorem settle_modeOff {s : State} (pos : Pos) (k : List Op) (h : s.tm ≠ narrowMode) :
    settle (.modeOff pos :: k) s = { s with todo := .modeOff pos :: k } := by rw [settle, if_neg h]

/-- The MODE_OFF action. -/
theorem drive_modeOff {s : State} {pos : Pos} {k : List Op} {data : Bool} {as rest : List Answer}
    (hm : meets s.cfg (ensureCalls data s.tm narrowMode) as = true) :
    drive (as ++ rest) (settle (.modeOff pos :: k) s) =
      drive rest (settle k (s.did (ensureCalls data s.tm narrowMode) as 0)) := by
  unfold ensureCalls at hm ⊢
  by_cases ht : narrowMode = s.tm
  · rw [if_pos ht, meets_nil] at hm
    subst hm
    rw [if_pos ht, did_nil, List.nil_append, settle, if_pos ht.symm]
  · rw [if_neg ht] at hm ⊢
    simp only [meets_cons, meets_nil] at hm
    obtain ⟨a, _, rfl, h, rfl⟩ := hm
    have ha := (Role.met_prompt rfl h).1
    rw [settle_modeOff pos k (Ne.symm ht)]
    have hp : pendingCall { s with todo := .modeOff pos :: k } = some (.configure narrowMode) := rfl
    rw [List.cons_append, List.nil_append, drive_call hp]
    have : answerCall (.configure narrowMode) a { s with todo := .modeOff pos :: k } =
        settle k (s.did [{ call := .configure narrowMode, role := .plain, data := data }] [a] 0) := by
      simp only [answerCall, answerHead, ha]
      rw [settle, if_pos rfl, ← settle_todo k (.modeOff pos :: k) (s.did _ _ _)]
      simp [State.did, modeAfter, capturedBytes, sumInto, lastByte, traceOf, Role.kept]
    rw [this]

/-- What an accepted transfer of role `r` that brought `b` leaves, TM and the trace apart. -/
def State.took (s : State) (r : Role) (b : Byte) (m : Nat) : State :=
  { s with
    rx := s.rx ++ (if r = .captured then [b] else [])
    cksum := sumInto s.cfg.cksumBits s.cksum (if r = .captured then [b] else [])
    sr := (r.kept { call := .ok, xfer := .done b, poll := .error }).getD s.sr
    txFifo := s.txFifo.drop m
    txUsed := s.txUsed + m }

/-- An item that performs one phase without a dummy preset. -/
theorem runs_phase {c : Cfg} {p : Sampled} {op : Op} {pd : PD} {b : Byte} {role : Role} {data : Bool} {tx : List Byte}
    (hP : ∀ s : State, s.cfg = c → s.smp = p → tx <+: s.txFifo → opPhase s op = some (pd, b)) (hd : due op = true)
    (hn : pd.dummy = .none) (hr : role.prompts = true)
    (hacc : ∀ (s : State) (r : Byte), accept op pd.actions (.done r) s = s.took role r tx.length) :
    RunsTo c p [op] [.phase pd b role data] tx (afterAccept op) where
  mode tm := by simp only [wireCalls, List.append_nil, modeAfter_calls_phase]; rfl
  runs s as rest k hc hp ht hm := by
    subst hc
    have hop := hP s rfl hp ht
    simp only [wireCalls, List.append_nil, WireItem.calls, if_pos hn] at hm ⊢
    obtain ⟨as12, as3, rfl, hm12, hm3⟩ := (meets_append ..).1 hm
    obtain ⟨as1, as2, rfl, hm1, hm2⟩ := (meets_append ..).1 hm12
    simp only [meets_cons, meets_nil] at hm2
    obtain ⟨a, _, rfl, h, rfl⟩ := hm2
    obtain ⟨ha, hx⟩ := Role.met_prompt hr h
    have hs : (opPhase s op).isSome = true := by rw [hop]; rfl
    rw [List.singleton_append, settle_due hs hd, List.append_assoc, List.append_assoc]
    have hcong : ∀ tm tr, opPhase { s with tm := tm, trace := tr } op = opPhase s op := by
      intro tm tr; cases op <;> rfl
    rw [drive_ensure (opCall_phase hop)
      (fun tm tr => by rw [settle_due (by rw [hcong]; exact hs) hd]) hm1]
    -- the transfer
    let s1 := s.did (ensureCalls data s.tm pd.want) as1 0
    have htm : s1.tm = pd.want := modeAfter_ensureCalls _ _ _
    have hop1 : opPhase { s1 with todo := op :: k } op = some (pd, b) := by
      rw [← hop]
      cases op <;> rfl
    have hp1 : pendingCall { s1 with todo := op :: k } = some (.transfer b pd.actions.wait) := by
      show opCall { s1 with todo := op :: k } op = _
      rw [opCall_phase hop1]
      simp [ensuring, htm]
    rw [List.singleton_append, drive_call hp1]
    let tr := s1.trace ++ [{ call := Call.transfer b pd.actions.wait, reply := .xfer a.xfer }]
    have hans : answerCall (.transfer b pd.actions.wait) a { s1 with todo := op :: k } =
        settle ((if pd.actions.modeOff then [.modeOff (opPos op)] else []) ++ afterAccept op ++ k)
          ({ s1 with trace := tr }.took role (byteOf a) tx.length) := by
      show answerTransfer op k a.xfer { s1 with todo := op :: k, trace := tr } = _
      have : opPhase { s1 with todo := op :: k, trace := tr } op = some (pd, b) := by
        rw [← hop1]; cases op <;> rfl
      rw [hx, answerTransfer_done this, hacc]
      exact settle_todo _ (op :: k) (State.took { s1 with trace := tr } role (byteOf a) tx.length)
    rw [hans]
    have hdid : { s1 with trace := tr }.took role (byteOf a) tx.length =
        s.did (ensureCalls data s.tm pd.want ++
          [{ call := .transfer b pd.actions.wait, role := role, data := data, retry := pd.actions.rsucc }])
          (as1 ++ [a]) tx.length := by
      rw [← Nat.zero_add tx.length, did_append s (meets_length hm1) 0 tx.length]
      have hk : role.kept { call := .ok, xfer := .done (byteOf a), poll := .error } = role.kept a := by
        cases role <;> rfl
      simp only [State.took, hk, Nat.zero_add]
      show _ = State.did s1 _ _ _
      simp only [State.did, modeAfter_transfer, traceOf, lastByte, capturedBytes, List.zip_cons_cons, List.zip_nil_right,
        List.map_cons, List.map_nil, replyTo, List.filterMap_cons, List.filterMap_nil]
      by_cases hcap : role = .captured <;> cases role.kept a <;> simp [hcap, tr]
    rw [hdid]
    by_cases hmo : pd.actions.modeOff = true
    · rw [if_pos hmo] at hm3 ⊢
      rw [if_pos hmo, List.append_assoc, List.singleton_append]
      have hlat : latched s.cfg s.tm pd = pd.want := by rw [latched, if_pos hn]
      have htm2 : (s.did (ensureCalls data s.tm pd.want ++
          [{ call := .transfer b pd.actions.wait, role := role, data := data, retry := pd.actions.rsucc }])
          (as1 ++ [a]) tx.length).tm = pd.want := by
        rw [did_tm, modeAfter_append, modeAfter_ensureCalls, modeAfter_transfer]
      rw [hlat] at hm3 ⊢
      rw [drive_modeOff (data := data) (by rw [htm2]; exact hm3), htm2,
        ← did_append s (meets_length hm12) tx.length 0]
      rfl
    · rw [if_neg hmo, meets_nil] at hm3
      subst hm3
      rw [if_neg hmo, if_neg hmo]
      simp

/-- The transfers of a dummy preset. -/
theorem drive_preset {c : Cfg} {pos : Pos} {k : List Op} (modes : List Mode) (s : State) (as rest : List Answer)
    (hc : s.cfg = c) (hm : meets c (presetCalls c.dummyByte s.tm modes) as = true) :
    drive (as ++ rest) (settle (.preset pos modes :: k) s) =
      drive rest (settle k (s.did (presetCalls c.dummyByte s.tm modes) as 0)) := by
  subst hc
  induction modes generalizing s as with
  | nil =>
    rw [presetCalls, meets_nil] at hm
    subst hm
    rw [presetCalls, did_nil]
    rfl
  | cons m ms ih =>
    rw [presetCalls] at hm
    obtain ⟨as1, as2, rfl, hm1, hm2⟩ := (meets_append ..).1 hm
    obtain ⟨a, as3, rfl, h, hm3⟩ := (meets_cons ..).1 hm2
    obtain ⟨-, hx⟩ := Role.met_prompt rfl h
    have hset : ∀ t : State, settle (.preset pos (m :: ms) :: k) t = { t with todo := .preset pos (m :: ms) :: k } :=
      fun _ => rfl
    rw [hset, List.append_assoc, drive_ensure (s := s) (op := .preset pos (m :: ms)) (t := .transfer s.cfg.dummyByte true)
      (data := false) rfl (fun tm tr => hset _) hm1]
    let s1 := s.did (ensureCalls false s.tm m.norm) as1 0
    have htm : s1.tm = m.norm := modeAfter_ensureCalls _ _ _
    have hp1 : pendingCall { s1 with todo := .preset pos (m :: ms) :: k } = some (.transfer s1.cfg.dummyByte true) := by
      show some (ensuring s1 m.norm _) = _
      rw [ensuring, if_pos htm]
    rw [List.cons_append, drive_call hp1]
    let tr := s1.trace ++ [{ call := Call.transfer s1.cfg.dummyByte true, reply := .xfer a.xfer }]
    have hans : answerCall (.transfer s1.cfg.dummyByte true) a { s1 with todo := .preset pos (m :: ms) :: k } =
        settle (.preset pos ms :: k) { s1 with trace := tr } := by
      show answerTransfer (.preset pos (m :: ms)) k a.xfer { s1 with todo := .preset pos (m :: ms) :: k, trace := tr } = _
      rw [hx]
      exact settle_todo _ (.preset pos (m :: ms) :: k) { s1 with trace := tr }
    rw [hans]
    have hdid : { s1 with trace := tr } = s1.did [{ call := .transfer s1.cfg.dummyByte true, role := .plain }] [a] 0 := by
      simp [State.did, modeAfter, capturedBytes, sumInto, lastByte, traceOf, Role.kept, replyTo, tr]
    rw [hdid]
    have htm2 : (s1.did [{ call := .transfer s1.cfg.dummyByte true, role := .plain }] [a] 0).tm = m.norm := htm
    rw [ih _ as3 (by rw [htm2]; exact hm3), htm2]
    have e : presetCalls s.cfg.dummyByte s.tm (m :: ms) = ensureCalls false s.tm m.norm ++
        ([{ call := .transfer s.cfg.dummyByte true, role := .plain }] ++ presetCalls s.cfg.dummyByte m.norm ms) := rfl
    rw [e, show a :: as3 = [a] ++ as3 from rfl, did_append s (meets_length hm1) 0 0, did_append _ rfl 0 0]
    rfl

/-- A dummy preset's phase. -/
theorem runs_preset {c : Cfg} {p : Sampled} (pos : Pos) {pd : PD} (b : Byte) (hn : pd.dummy ≠ .none) :
    Runs c p (phaseOps c pos pd b) [.phase pd b .plain] [] where
  mode tm := by simp only [wireCalls, List.append_nil, modeAfter_calls_phase]; rfl
  runs s as rest k hc hp ht hm := by
    subst hc
    simp only [wireCalls, WireItem.calls, if_neg hn, List.append_nil] at hm ⊢
    have hlat : latched s.cfg s.tm pd = modeAfter s.tm (presetCalls s.cfg.dummyByte s.tm (s.cfg.dummyModes pd.dummy)) := by
      rw [latched, if_neg hn, modeAfter_presetCalls]
    obtain ⟨as1, as2, rfl, h1, h2⟩ := (meets_append ..).1 hm
    simp only [phaseOps, if_neg hn]
    rw [List.cons_append, List.append_assoc, drive_preset _ s as1 (as2 ++ rest) rfl h1]
    by_cases hmo : pd.actions.modeOff = true
    · simp only [hmo, if_true] at h2 ⊢
      rw [hlat] at h2 ⊢
      rw [List.singleton_append, drive_modeOff (data := false) h2, ← did_append s (meets_length h1) 0 0]
      rfl
    · simp only [hmo] at h2 ⊢
      rw [if_neg (by simp), meets_nil] at h2
      subst h2
      simp

/-- A phase that sends a byte of its own and captures nothing. -/
theorem runs_plain {c : Cfg} {p : Sampled} (pos : Pos) {pd : PD} (b : Byte) (hn : pd.dummy = .none)
    (hcap : pd.actions.capture = false) : Runs c p (phaseOps c pos pd b) [.phase pd b .plain] [] := by
  have : phaseOps c pos pd b = [.phase pos pd b] := by simp [phaseOps, hn]
  rw [this]
  exact runs_phase (fun _ _ _ _ => rfl) rfl hn rfl
    (fun s r => by simp [accept, hcap, State.took, sumInto, Role.kept])

theorem Runs.map {α : Type} {c : Cfg} {p : Sampled} {f : α → List Op} {g : α → List WireItem} (l : List α)
    (h : ∀ x ∈ l, Runs c p (f x) (g x) []) : Runs c p (l.map f).flatten (l.map g).flatten [] := by
  induction l with
  | nil => exact Runs.nil c p
  | cons x l ih =>
    simp only [List.map_cons, List.flatten_cons]
    exact (h x (by simp)).append (ih fun y hy => h y (by simp [hy]))

theorem runs_rx {c : Cfg} {p : Sampled} (m : Width) (count : Nat) : ∀ (d i : Nat), i + d = count →
    Runs c p [.rx m i count]
      ((List.range' i d).map fun i => .phase (pdRx m p.qpi (i + 1 == count)) c.dummyByte .captured true) []
  | 0, i, h => .skip fun s k _ => by
      have : ¬ i < count := by omega
      simp [settle, this]
  | d + 1, i, h => by
    rw [List.range'_succ, List.map_cons, ← List.singleton_append]
    have h1 : RunsTo c p [.rx m i count] [.phase (pdRx m p.qpi (i + 1 == count)) c.dummyByte .captured true] []
        [.rx m (i + 1) count] :=
      runs_phase (op := .rx m i count) (fun s hc hp _ => by rw [← hc, ← hp]; rfl) (by simp [due]; omega) rfl rfl
        (fun s r => by
          simp [accept, rxPush, State.took, pdRx, sumInto, Role.kept])
    exact h1.trans (runs_rx m count d (i + 1) (by omega))

theorem runs_rxi {c : Cfg} {p : Sampled} {keep : Role}
    (hk : ∀ a, a.xfer = .done (byteOf a) → keep.kept a = some (byteOf a)) (hr : keep.prompts = true) (hcap : keep ≠ .captured) :
    Runs c p [.rxi] [.phase (pdRxi p.qpi) c.dummyByte keep true] [] :=
  runs_phase (op := .rxi) (fun s hc hp _ => by rw [← hc, ← hp]; rfl) rfl rfl hr
    (fun s r => by simp [accept, State.took, hcap, sumInto, hk { call := .ok, xfer := .done r, poll := .error } rfl, byteOf])

theorem runs_txFifo {c : Cfg} {p : Sampled} (m : Width) (count : Nat) : ∀ (tx : List Byte) (i : Nat), i + tx.length = count →
    Runs c p [.tx m i count .fifo]
      ((tx.zipIdx i).map fun x => .phase (pdTx m p.qpi (x.2 + 1 == count)) x.1 .plain true) tx
  | [], i, h => .skip fun s k _ => by
      have : ¬ i < count := by simp at h; omega
      simp [settle, this]
  | b :: tx, i, h => by
    rw [List.zipIdx_cons, List.map_cons, ← List.singleton_append, ← List.singleton_append (l := tx)]
    have h1 : RunsTo c p [.tx m i count .fifo] [.phase (pdTx m p.qpi (i + 1 == count)) b .plain true] [b]
        [.tx m (i + 1) count .fifo] :=
      runs_phase (op := .tx m i count .fifo)
        (fun s hc hp ht => by
          obtain ⟨f, hf⟩ := ht
          simp [opPhase, txByte, ← hf, hp])
        (by simp at h; simp [due]; omega) rfl rfl
        (fun s r => by simp [accept, State.took, sumInto, Role.kept, List.drop_one])
    simp at h
    exact h1.trans (runs_txFifo m count tx (i + 1) (by omega))

theorem runs_txArg {c : Cfg} {p : Sampled} (m : Width) :
    Runs c p [.tx m 0 1 .arg] [.phase (pdTx m p.qpi true) p.arg .plain true] [] := by
  have h1 : RunsTo c p [.tx m 0 1 .arg] [.phase (pdTx m p.qpi true) p.arg .plain true] [] [.tx m 1 1 .arg] :=
    runs_phase (op := .tx m 0 1 .arg) (fun s hc hp _ => by rw [← hp]; rfl) rfl rfl rfl
      (fun s r => by simp [accept, State.took, sumInto, Role.kept, pdTx])
  exact h1.trans (.skip fun _ _ _ => rfl)

/-! ## Brackets -/

/-- The byte a role keeps. -/
def keepsByte (r : Role) : Bool :=
  match r with
  | .polled _ => true
  | .pending _ => true
  | .quadTest => true
  | .quadOff => true
  | _ => false

/-- What the data phases of a bracket need: of TX the bytes `used`. -/
def DataFits (p : Sampled) (d : CmdDesc) (len : Nat) (tx used : List Byte) (keep : Role) : Prop :=
  match d.data with
  | .noData => used = []
  | .rx k => used = [] ∧ k.value len = k.value p.len.toNat
  | .rxi => used = [] ∧ keepsByte keep = true
  | .tx k => (k.src = .fifo ∧ used = tx ∧ tx.length = k.value len) ∨ (k = .arg1 ∧ used = [] ∧ tx = [p.arg])

theorem runs_data {c : Cfg} {p : Sampled} {d : CmdDesc} {len : Nat} {tx used : List Byte} {keep : Role} (m : Width)
    (h : DataFits p d len tx used keep) :
    Runs c p (dataOps m d.data len) (dataWire c p m d.data p.len.toNat tx keep) used := by
  unfold DataFits at h
  cases hd : d.data with
  | noData =>
    rw [hd] at h; simp only at h; subst h; exact Runs.nil c p
  | rx k =>
    rw [hd] at h
    obtain ⟨rfl, hk⟩ := h
    simp only [dataOps, dataWire, hk, List.range_eq_range']
    exact runs_rx m _ _ 0 (by omega)
  | rxi =>
    rw [hd] at h
    obtain ⟨rfl, hk⟩ := h
    exact runs_rxi (fun a ha => by cases keep <;> simp_all [keepsByte, Role.kept])
      (by cases keep <;> simp_all [keepsByte, Role.prompts]) (by rintro rfl; simp [keepsByte] at hk)
  | tx k =>
    rw [hd] at h
    rcases h with ⟨hs, rfl, hl⟩ | ⟨rfl, rfl, rfl⟩
    · simp only [dataOps, dataWire, hs, ← hl]
      exact runs_txFifo m _ used 0 (by omega)
    · exact runs_txArg m

/-- The item of the wire that is a phase. -/
def PhaseAt.wire (x : PhaseAt) : WireItem := .phase x.pd x.tx .plain

/-- Phases with nothing to capture. -/
theorem runs_phases {c : Cfg} {p : Sampled} (xs : List PhaseAt) (h : ∀ x ∈ xs, x.pd.actions.capture = false) :
    Runs c p (xs.flatMap fun x => phaseOps c x.pos x.pd x.tx) (xs.map PhaseAt.wire) [] := by
  have e : xs.map PhaseAt.wire = (xs.map fun x => [x.wire]).flatten := by
    rw [← List.flatMap_def, ← List.map_eq_flatMap]
  rw [List.flatMap_def, e]
  refine Runs.map _ fun x hx => ?_
  by_cases hn : x.pd.dummy = .none
  · exact runs_plain _ _ hn (h x hx)
  · exact runs_preset _ _ hn

theorem addrPhases_wire (c : Cfg) (p : Sampled) (d : CmdDesc) (addr addr2 : Word) :
    (addrPhases c p d addr addr2).map PhaseAt.wire =
      (addrPhaseBytes c d.addr p.a4b addr addr2).map fun b => .phase (pdAdr (d.shapeIn c).addrM p.qpi) b .plain := by
  conv_rhs => rw [← List.zipIdx_map_fst 0 (addrPhaseBytes c d.addr p.a4b addr addr2)]
  simp only [addrPhases, List.map_map]
  rfl

theorem dummyPhases_wire (c : Cfg) (p : Sampled) (i : Nat) (item : DummyItem) :
    (dummyPhases c p i item).map PhaseAt.wire = dummyWire c p item := by
  cases item <;> simp [dummyPhases, dummyWire, PhaseAt.wire]

theorem markLast_wire (p : Sampled) (leaving : Bool) (xs : List PhaseAt) :
    (markLast (closesMode p leaving) xs).map PhaseAt.wire = endNarrow p.qpi leaving (xs.map PhaseAt.wire) := by
  induction xs with
  | nil => rfl
  | cons x rest ih =>
    cases rest with
    | nil =>
      simp only [markLast, List.map_cons, List.map_nil, PhaseAt.wire, endNarrow, closesMode, offAction, Bool.true_and]
      split <;> simp_all
    | cons y ys =>
      have e : endNarrow p.qpi leaving (List.map PhaseAt.wire (x :: y :: ys)) =
          x.wire :: endNarrow p.qpi leaving (List.map PhaseAt.wire (y :: ys)) := by
        simp [endNarrow]
      rw [e, ← ih]
      rfl

theorem markLast_capture (off : PD → Bool) (xs : List PhaseAt) (h : ∀ x ∈ xs, x.pd.actions.capture = false) :
    ∀ x ∈ markLast off xs, x.pd.actions.capture = false := by
  induction xs with
  | nil => simp [markLast]
  | cons x rest ih =>
    cases rest with
    | nil =>
      intro y hy
      simp only [markLast, List.mem_singleton] at hy
      subst hy
      have := h x (by simp)
      split <;> simp [PD.withModeOff, this]
    | cons z zs =>
      intro y hy
      rw [markLast] at hy
      · rcases List.mem_cons.1 hy with rfl | hy
        · exact h _ (by simp)
        · exact ih (fun x hx => h x (by simp [hx])) y hy
      · simp

theorem dataWire_isEmpty {c : Cfg} {p : Sampled} {d : CmdDesc} {len : Nat} {tx used : List Byte} {keep : Role} (m : Width)
    (h : DataFits p d len tx used keep) :
    (dataWire c p m d.data p.len.toNat tx keep).isEmpty = decide (d.data.phases len = 0) := by
  unfold DataFits at h
  cases hd : d.data with
  | noData => rfl
  | rx k =>
    rw [hd] at h
    simp only [dataWire, DataKind.phases, h.2, List.isEmpty_map]
    cases k.value p.len.toNat <;> simp [List.range_succ]
  | rxi => rfl
  | tx k =>
    rw [hd] at h
    simp only [dataWire, DataKind.phases]
    rcases h with ⟨-, -, hl⟩ | ⟨rfl, -, rfl⟩
    · cases tx with
      | nil => simp [← hl]
      | cons b bs => rw [List.length_cons] at hl; simp [show k.value len ≠ 0 by omega]
    · rfl

/-- The address and dummy phases of a bracket. -/
theorem runs_head {c : Cfg} {p : Sampled} {d : CmdDesc} {addr addr2 : Word} {len : Nat} {tx used : List Byte} {keep : Role}
    (h : DataFits p d len tx used keep) :
    Runs c p ((headPhases c p d addr addr2 len).flatMap fun x => phaseOps c x.pos x.pd x.tx)
      (let head := (addrPhaseBytes c d.addr p.a4b addr addr2).map
          (fun b => WireItem.phase (pdAdr (d.shapeIn c).addrM p.qpi) b .plain) ++
          (d.shapeIn c).dummy.flatMap (dummyWire c p)
       if (dataWire c p (d.shapeIn c).dataM d.data p.len.toNat tx keep).isEmpty then endNarrow p.qpi d.opcodeOff head
       else head) [] := by
  let xs := addrPhases c p d addr addr2 ++
    ((d.shapeIn c).dummy.zipIdx.map fun (x : DummyItem × Nat) => dummyPhases c p x.2 x.1).flatten
  have hx : xs.map PhaseAt.wire = (addrPhaseBytes c d.addr p.a4b addr addr2).map
      (fun b => WireItem.phase (pdAdr (d.shapeIn c).addrM p.qpi) b .plain) ++
      (d.shapeIn c).dummy.flatMap (dummyWire c p) := by
    have e : (d.shapeIn c).dummy.flatMap (dummyWire c p) =
        ((d.shapeIn c).dummy.zipIdx.map fun x => dummyWire c p x.1).flatten := by
      rw [List.flatMap_def]
      conv_lhs => rw [← List.zipIdx_map_fst 0 (d.shapeIn c).dummy]
      rw [List.map_map]
      rfl
    rw [List.map_append, addrPhases_wire, e, List.map_flatten, List.map_map]
    congr 2
    exact List.map_congr_left fun x _ => dummyPhases_wire c p x.2 x.1
  have hcap : ∀ x ∈ xs, x.pd.actions.capture = false := by
    intro x hx
    rcases List.mem_append.1 hx with hx | hx
    · simp only [addrPhases, List.mem_map] at hx
      obtain ⟨y, -, rfl⟩ := hx
      rfl
    · simp only [List.mem_flatten, List.mem_map] at hx
      obtain ⟨l, ⟨y, -, rfl⟩, hx⟩ := hx
      cases hy : y.1 with
      | bytes n n4 l r dir =>
        rw [hy] at hx; simp only [dummyPhases, List.mem_replicate] at hx; rw [hx.2]; rfl
      | preset k => rw [hy] at hx; simp only [dummyPhases, List.mem_singleton] at hx; rw [hx]; rfl
  show Runs c p ((if d.data.phases len = 0 then markLast (closesMode p d.opcodeOff) xs else xs).flatMap _) _ []
  simp only [dataWire_isEmpty (d.shapeIn c).dataM h, decide_eq_true_eq, ← hx]
  by_cases h0 : d.data.phases len = 0
  · simp only [h0, if_true]
    rw [← markLast_wire]
    exact runs_phases _ (markLast_capture _ xs hcap)
  · simp only [h0, if_false]
    exact runs_phases xs hcap

/-- A whole bracket (41_sequencer_poller.md R154 to R160). -/
theorem runs_bracket {c : Cfg} {p : Sampled} {d : CmdDesc} {addr addr2 : Word} {len : Nat} {tx used : List Byte} {keep : Role}
    (h : DataFits p d len tx used keep) :
    Runs c p (bracketOps c p d addr addr2 len) (bracketWire c p d addr addr2 tx keep) used := by
  have hopc : Runs c p [.opcode d.opc (d.opcodeOff && p.qpi)]
      [.phase (pdOpc p.qpi (d.opcodeOff && p.qpi)) (c.opcode p.a4b d.opc) .plain] [] :=
    runs_phase (op := .opcode d.opc (d.opcodeOff && p.qpi)) (fun s hc hp _ => by rw [← hc, ← hp]; rfl) rfl rfl rfl
      (fun s r => by simp [accept, State.took, sumInto, Role.kept, pdOpc])
  have := (((runs_select c p).append hopc).append (runs_head (d := d) (addr := addr) (addr2 := addr2) h)).append
    ((runs_data (d.shapeIn c).dataM h).append (runs_deselect c p))
  simpa [bracketOps, bracketWire] using this

/-! ## Waits, and what they leave in LASTSR and N -/

/-- `did`, with the poll registers. -/
def State.did2 (s : State) (cs : List WireCall) (as : List Answer) (m : Nat) : State :=
  { s.did cs as m with
    lastSr := lastByte Role.status cs as s.lastSr
    n := if cs.any WireCall.isPoll then 1 else s.n }

theorem did2_append (s : State) {cs cs' : List WireCall} {as as' : List Answer} (h : cs.length = as.length) (m m' : Nat) :
    s.did2 (cs ++ cs') (as ++ as') (m + m') = (s.did2 cs as m).did2 cs' as' m' := by
  simp only [State.did2, State.did, modeAfter_append, capturedBytes_append h, sumInto_append, lastByte_append _ h,
    traceOf_append h, List.append_assoc, List.drop_drop, Nat.add_assoc, List.any_append]
  cases cs.any WireCall.isPoll <;> cases cs'.any WireCall.isPoll <;> rfl

/-- Like `Runs`, for items among which waits stand, each ended by its first read. -/
structure Runs2 (c : Cfg) (p : Sampled) (ops : List Op) (ws : List WireItem) (tx : List Byte) : Prop where
  mode : ∀ tm, modeAfter tm (wireCalls c tm ws) = wireTm c tm ws
  runs : ∀ (s : State) (as rest : List Answer) (k : List Op), s.cfg = c → s.smp = p → tx <+: s.txFifo →
    meets c (wireCalls c s.tm ws) as = true →
    drive (as ++ rest) (settle (ops ++ k) s) = drive rest (settle k (s.did2 (wireCalls c s.tm ws) as tx.length))

theorem Runs2.append {c : Cfg} {p : Sampled} {ops ops' : List Op} {ws ws' : List WireItem} {tx tx' : List Byte}
    (h : Runs2 c p ops ws tx) (h' : Runs2 c p ops' ws' tx') : Runs2 c p (ops ++ ops') (ws ++ ws') (tx ++ tx') where
  mode tm := by rw [wireCalls_append, modeAfter_append, h.mode, h'.mode]; simp [wireTm]
  runs s as rest k hc hp ht hm := by
    rw [wireCalls_append] at hm ⊢
    obtain ⟨as1, as2, rfl, h1, h2⟩ := (meets_append ..).1 hm
    obtain ⟨f, hf⟩ := ht
    have htm : (s.did2 (wireCalls c s.tm ws) as1 tx.length).tm = wireTm c s.tm ws := h.mode s.tm
    rw [List.append_assoc, List.append_assoc, h.runs s as1 _ _ hc hp ⟨tx' ++ f, by rw [← hf, List.append_assoc]⟩ h1,
      h'.runs (s.did2 (wireCalls c s.tm ws) as1 tx.length) as2 rest k hc hp ?_ ?_, htm, List.length_append, did2_append _ (meets_length h1)]
    · show tx' <+: s.txFifo.drop tx.length
      rw [← hf, List.append_assoc, List.drop_left]; exact ⟨f, rfl⟩
    · rw [htm]; exact h2

/-- The roles of an item's answers all satisfy `P`, as `.plain` does. -/
def WireItem.has (P : Role → Bool) (w : WireItem) : Bool :=
  match w with
  | .phase _ _ r _ => P r
  | .assist _ => P .matched
  | _ => true

/-- A role of whose byte a poll takes nothing. -/
def quiet (r : Role) : Bool :=
  match r with
  | .polled _ => false
  | .pending _ => false
  | .matched => false
  | _ => true

theorem presetCalls_plain (b : Byte) (tm : Mode) (modes : List Mode) :
    ∀ k ∈ presetCalls b tm modes, k.role = .plain := by
  induction modes generalizing tm with
  | nil => simp [presetCalls]
  | cons m ms ih =>
    intro k hk
    simp only [presetCalls, ensureCalls, List.mem_append, List.mem_cons] at hk
    rcases hk with hk | rfl | hk
    · split at hk
      · simp at hk
      · simp only [List.mem_singleton] at hk; subst hk; rfl
    · rfl
    · exact ih _ k hk

theorem roles_wireCalls {P : Role → Bool} (hP : P .plain = true) (c : Cfg) (tm : Mode) (ws : List WireItem)
    (h : ws.all (WireItem.has P) = true) : ∀ k ∈ wireCalls c tm ws, P k.role = true := by
  have hens : ∀ (k : WireCall) (d : Bool) (a b : Mode), k ∈ ensureCalls d a b → P k.role = true := by
    intro k d a b hk
    unfold ensureCalls at hk
    split at hk
    · simp at hk
    · simp only [List.mem_singleton] at hk; subst hk; exact hP
  induction ws generalizing tm with
  | nil => simp [wireCalls]
  | cons w ws ih =>
    simp only [List.all_cons, Bool.and_eq_true] at h
    intro k hk
    rw [wireCalls, List.mem_append] at hk
    rcases hk with hk | hk
    · cases w with
      | select => simp [WireItem.calls] at hk; subst hk; exact hP
      | deselect => simp [WireItem.calls] at hk; subst hk; exact hP
      | assist c => simp [WireItem.calls] at hk; subst hk; exact h.1
      | phase pd tx role data =>
        simp only [WireItem.calls, List.mem_append] at hk
        rcases hk with hk | hk
        · split at hk
          · simp only [List.mem_append, List.mem_singleton] at hk
            rcases hk with hk | rfl
            · exact hens _ _ _ _ hk
            · exact h.1
          · rw [presetCalls_plain _ _ _ k hk]; exact hP
        · split at hk
          · exact hens _ _ _ _ hk
          · simp at hk
    · exact ih _ h.2 k hk

theorem quiet_status {cs : List WireCall} (h : ∀ k ∈ cs, quiet k.role = true) (as : List Answer) (old : Byte) :
    lastByte Role.status cs as old = old ∧ cs.any WireCall.isPoll = false := by
  constructor
  · have : (cs.zip as).filterMap (fun x => Role.status x.1.role x.2) = [] := by
      rw [List.filterMap_eq_nil_iff]
      rintro ⟨k, a⟩ hx
      have hq := h k (List.of_mem_zip hx).1
      revert hq
      show quiet k.role = true → Role.status k.role a = none
      cases k.role <;> simp [quiet, Role.status]
    simp [lastByte, this]
  · rw [List.any_eq_false]
    intro k hk
    have hq := h k hk
    unfold WireCall.isPoll
    cases hr : k.role <;> simp_all [quiet]

theorem Runs.runs2 {c : Cfg} {p : Sampled} {ops : List Op} {ws : List WireItem} {tx : List Byte} (h : Runs c p ops ws tx)
    (hs : ws.all (WireItem.has quiet) = true) : Runs2 c p ops ws tx where
  mode := h.mode
  runs s as rest k hc hp ht hm := by
    obtain ⟨h1, h2⟩ := quiet_status (roles_wireCalls rfl c s.tm ws hs) as s.lastSr
    have : s.did2 (wireCalls c s.tm ws) as tx.length = s.did (wireCalls c s.tm ws) as tx.length := by
      rw [State.did2, h1, h2]; rfl
    rw [this, h.runs s as rest k hc hp ht hm]
    rfl

/-- The roles of a bracket: plain but for its data phases. -/
theorem has_head {P : Role → Bool} (hP : P .plain = true) (c : Cfg) (p : Sampled) (d : CmdDesc) (addr addr2 : Word) :
    ((addrPhaseBytes c d.addr p.a4b addr addr2).map (fun b => WireItem.phase (pdAdr (d.shapeIn c).addrM p.qpi) b .plain) ++
      (d.shapeIn c).dummy.flatMap (dummyWire c p)).all (WireItem.has P) = true := by
  have hm : ((d.shapeIn c).dummy.flatMap (dummyWire c p)).all (WireItem.has P) = true := by
    simp only [List.all_flatMap, List.all_eq_true]
    intro it _ w hw
    cases it with
    | preset k => simp [dummyWire] at hw; subst hw; exact hP
    | bytes n n4 l r dir => simp only [dummyWire, List.mem_replicate] at hw; rw [hw.2]; exact hP
  simp only [List.all_append, hm, Bool.and_true]
  simp [WireItem.has, hP]

theorem has_endNarrow {P : Role → Bool} (qpi leaving : Bool) (ws : List WireItem) :
    (endNarrow qpi leaving ws).all (WireItem.has P) = ws.all (WireItem.has P) := by
  induction ws with
  | nil => rfl
  | cons w rest ih =>
    unfold endNarrow
    split
    · simp at *
    · rename_i h; cases h; split <;> rfl
    · rename_i h; cases h; simp [ih]

theorem silent_bracket (c : Cfg) (p : Sampled) (d : CmdDesc) (addr addr2 : Word) (tx : List Byte) {keep : Role}
    (hk : quiet keep = true) : (bracketWire c p d addr addr2 tx keep).all (WireItem.has quiet) = true := by
  have hd : (dataWire c p (d.shapeIn c).dataM d.data p.len.toNat tx keep).all (WireItem.has quiet) = true := by
    cases d.data with
    | noData => rfl
    | rx k => simp [dataWire, WireItem.has, quiet]
    | rxi => simp [dataWire, WireItem.has, hk]
    | tx k => simp [dataWire, WireItem.has, quiet]
  have hh := has_head (P := quiet) rfl c p d addr addr2
  simp only [bracketWire, List.all_append, hd, Bool.and_true]
  split
  · rw [has_endNarrow, hh]; rfl
  · rw [hh]; rfl

/-- A bracket whose kept byte no poll takes. -/
theorem runs2_bracket {c : Cfg} {p : Sampled} {d : CmdDesc} {addr addr2 : Word} {len : Nat} {tx used : List Byte} {keep : Role}
    (h : DataFits p d len tx used keep) (hk : quiet keep = true) :
    Runs2 c p (bracketOps c p d addr addr2 len) (bracketWire c p d addr addr2 tx keep) used :=
  (runs_bracket h).runs2 (silent_bracket c p d addr addr2 tx hk)

/-- The calls of a poll read: one of the read's role, the others plain. -/
theorem statusWire_calls (c : Cfg) (p : Sampled) (tm : Mode) (r : Role) :
    ∃ pre, wireCalls c tm (statusWire c p r) =
      pre ++ [{ call := .transfer c.dummyByte true, role := r, data := true }] ++ [{ call := .selectHigh, role := .plain }] ∧
      ∀ k ∈ pre, k.role = .plain := by
  let front := [WireItem.select, .phase (pdOpc p.qpi false) (c.opcode p.a4b .rdsr1) .plain]
  have e : statusWire c p r = front ++ ([.phase (pdRxi p.qpi) c.dummyByte r true] ++ [.deselect]) := rfl
  let tm1 := wireTm c tm front
  refine ⟨wireCalls c tm front ++ ensureCalls true tm1 (pdRxi p.qpi).want, ?_, ?_⟩
  · rw [e, wireCalls_append]
    simp [wireCalls, WireItem.calls, pdRxi, tm1]
  · intro k hk
    rw [List.mem_append] at hk
    rcases hk with hk | hk
    · have := roles_wireCalls (P := fun r => r == .plain) (by decide) c tm front rfl k hk
      simpa using this
    · unfold ensureCalls at hk
      split at hk
      · simp at hk
      · simp only [List.mem_singleton] at hk; subst hk; rfl

theorem lastByte_plain {f : Role → Answer → Option Byte} (hf : ∀ a, f .plain a = none) {cs : List WireCall}
    (h : ∀ k ∈ cs, k.role = .plain) (as : List Answer) (old : Byte) : lastByte f cs as old = old := by
  have : (cs.zip as).filterMap (fun x => f x.1.role x.2) = [] := by
    rw [List.filterMap_eq_nil_iff]
    rintro ⟨k, a⟩ hx
    show f k.role a = none
    rw [h k (List.of_mem_zip hx).1, hf]
  simp [lastByte, this]

/-- What a poll read brings: the byte SEQ keeps, which is the byte the poll takes, and whether it ends the wait. -/
theorem statusWire_byte {c : Cfg} {p : Sampled} {tm : Mode} {r : Role} {as : List Answer}
    (hs : ∀ a, Role.status r a = some (byteOf a)) (hk : ∀ a, Role.kept r a = some (byteOf a))
    (hm : meets c (wireCalls c tm (statusWire c p r)) as = true) :
    ∃ a, r.met c a = true ∧ (∀ old, lastByte Role.kept (wireCalls c tm (statusWire c p r)) as old = byteOf a) ∧
      (∀ old, lastByte Role.status (wireCalls c tm (statusWire c p r)) as old = byteOf a) := by
  obtain ⟨pre, e, hp⟩ := statusWire_calls c p tm r
  rw [e] at hm ⊢
  obtain ⟨as12, as3, rfl, hm12, hm3⟩ := (meets_append ..).1 hm
  obtain ⟨as1, as2, rfl, hm1, hm2⟩ := (meets_append ..).1 hm12
  obtain ⟨a, _, rfl, h, hn⟩ := (meets_cons ..).1 hm2
  rw [meets_nil] at hn
  subst hn
  refine ⟨a, h, fun old => ?_, fun old => ?_⟩
  · rw [lastByte_append _ (meets_length hm12), lastByte_append _ (meets_length hm1), lastByte_plain (fun _ => rfl) hp]
    rw [lastByte_plain (fun _ => rfl) (by simp)]
    simp [lastByte, hk]
  · rw [lastByte_append _ (meets_length hm12), lastByte_append _ (meets_length hm1), lastByte_plain (fun _ => rfl) hp]
    rw [lastByte_plain (fun _ => rfl) (by simp)]
    simp [lastByte, hs]

theorem statusWire_isPoll (c : Cfg) (p : Sampled) (tm : Mode) (sp : PollSpec) :
    (wireCalls c tm (statusWire c p (.polled sp))).any WireCall.isPoll = true := by
  obtain ⟨pre, e, -⟩ := statusWire_calls c p tm (.polled sp)
  rw [e]
  simp [WireCall.isPoll]

/-- One poll read, from the head of the poll loop to its test (41_sequencer_poller.md R168). -/
theorem drive_pollLoop {c : Cfg} {p : Sampled} {sp : PollSpec} {r : Role} {s : State} {as rest : List Answer} {k : List Op}
    (hc : s.cfg = c) (hp : s.smp = p) (hn : s.n.toNat ≠ c.budget sp.cls) (hr : keepsByte r = true)
    (hm : meets c (wireCalls c s.tm (statusWire c p r)) as = true) :
    drive (as ++ rest) (pollLoop sp k s) =
      drive rest (settle (.pollTest sp :: k) (s.did (wireCalls c s.tm (statusWire c p r)) as 0)) := by
  subst hc hp
  have e : pollLoop sp k s = settle (statusReadOps s.cfg s.smp ++ (.pollTest sp :: k)) s := by
    rw [pollLoop_eq, if_neg hn]
    rfl
  have hrun : Runs s.cfg s.smp (statusReadOps s.cfg s.smp) (statusWire s.cfg s.smp r) [] :=
    runs_bracket (d := statusReadDesc) (len := 0) (tx := []) (keep := r) (show DataFits _ _ _ _ _ _ from ⟨rfl, hr⟩)
  rw [e, hrun.runs s as rest _ rfl rfl (List.nil_prefix) hm]
  rfl

/-- A wait of reads that its first read ends. -/
theorem runs2_wait_reads {c : Cfg} {p : Sampled} {sp : PollSpec} (hi : c.pollImpl = .reads) (hb : 0 < c.budget sp.cls) :
    Runs2 c p [.poll sp] (statusWire c p (.polled sp)) [] where
  mode := (runs_bracket (d := statusReadDesc) (len := 0) (tx := []) (addr := 0) (addr2 := 0) (keep := .polled sp)
    (show DataFits p _ _ _ _ _ from ⟨rfl, rfl⟩)).mode
  runs s as rest k hc hp _ hm := by
    have e : settle ([.poll sp] ++ k) s = pollLoop sp k { s with n := 0 } := by
      show (match s.cfg.pollImpl with
        | .reads => pollLoop sp k { s with n := 0 }
        | .assisted => { s with todo := .autoPoll sp :: k }) = _
      rw [hc, hi]
    rw [e, drive_pollLoop (s := { s with n := 0 }) (r := .polled sp) hc hp (by rw [show (({ s with n := 0 } : State).n.toNat) = 0 from rfl]; omega)
      rfl hm]
    obtain ⟨a, hmet, hk, hs⟩ := statusWire_byte (r := .polled sp) (fun _ => rfl) (fun _ => rfl) hm
    have hmatch : statusMatches sp (byteOf a) = true := by
      simp only [Role.met, Bool.and_eq_true] at hmet
      exact hmet.2
    show drive rest (if statusMatches sp (lastByte Role.kept (wireCalls c s.tm (statusWire c p (.polled sp))) as s.sr) then
      settle k _ else _) = _
    rw [hk, if_pos hmatch, State.did2, statusWire_isPoll, hs]
    congr 2
    simp [State.did, hk]

/-- An assisted wait (41_sequencer_poller.md R173). -/
theorem runs2_wait_assisted {c : Cfg} {p : Sampled} {sp : PollSpec} (hi : c.pollImpl = .assisted) :
    Runs2 c p [.poll sp]
      [.assist (.autoPoll (c.opcode p.a4b .rdsr1) (eff .l1 p.qpi) sp.mask sp.target (c.budget sp.cls))] [] where
  mode _ := rfl
  runs s as rest k hc hp _ hm := by
    simp only [wireCalls, WireItem.calls, List.append_nil, meets_cons, meets_nil] at hm ⊢
    obtain ⟨a, _, rfl, h, rfl⟩ := hm
    have e : settle ([.poll sp] ++ k) s = { s with todo := .autoPoll sp :: k } := by
      show (match s.cfg.pollImpl with
        | .reads => pollLoop sp k { s with n := 0 }
        | .assisted => { s with todo := .autoPoll sp :: k }) = _
      rw [hc, hi]
    rw [e]
    have hpend : pendingCall { s with todo := .autoPoll sp :: k } =
        some (.autoPoll (c.opcode p.a4b .rdsr1) (eff .l1 p.qpi) sp.mask sp.target (c.budget sp.cls)) := by
      rw [← hc, ← hp]; rfl
    rw [List.singleton_append, drive_call hpend]
    obtain ⟨sr, hsr⟩ : ∃ sr, a.poll = .matched sr := by
      simp only [Role.met] at h
      split at h
      · exact ⟨_, by assumption⟩
      · simp at h
    simp only [answerCall, answerHead, hsr]
    rw [← settle_todo k (.autoPoll sp :: k) (State.did2 _ _ _ _)]
    congr 2
    simp [State.did2, State.did, modeAfter, capturedBytes, sumInto, lastByte, traceOf, Role.kept, Role.status, replyTo, hsr,
      WireCall.isPoll]

/-- A wait, in either implementation. -/
theorem runs2_wait {c : Cfg} {p : Sampled} {sp : PollSpec} (hb : 0 < c.budget sp.cls) :
    Runs2 c p [.poll sp] (waitWire c p sp) [] := by
  unfold waitWire
  cases hi : c.pollImpl with
  | reads => exact runs2_wait_reads hi hb
  | assisted => exact runs2_wait_assisted hi

/-! ## Whole commands -/

/-- A command's end with nothing of TX left over. -/
theorem finish_eq {r : Result} {s : State} (h : s.smp.fmt = .fALD → s.txFifo = []) :
    finish r s = { s with result := r, run := false, done := true, todo := [] } := by
  unfold finish dropTx
  by_cases hf : s.smp.fmt = .fALD
  · simp only [hf, if_true]
    rw [if_pos (by simp [h hf])]
    simp [h hf]
  · simp only [hf, if_false]

/-- A command whose checks hold, whose items are `ops` and then `k`, and whose `ops` run as `ws`, issued with answers that
meet `ws`. -/
theorem exec_runs {i : Instr} {s : State} {as rest : List Answer} {ops k : List Op} {ws : List WireItem} {tx : List Byte}
    (hr : s.run = false) (hk : checksHold (checksOf i s.cfg) s.cfg (s.sample i) = true)
    (ho : opsOf i s.cfg (s.sample i) = ops ++ k) (h : Runs2 s.cfg (s.sample i) ops ws tx) (ht : tx <+: s.txFifo)
    (hx : s.xp = as ++ rest) (hm : meets s.cfg (wireCalls s.cfg s.tm ws) as = true) :
    exec i s = .next (drive rest (settle k ((sampleAndClear i s).did2 (wireCalls s.cfg s.tm ws) as tx.length))) := by
  rw [exec_eq]
  rcases runCommand_cases i (checksOf i s.cfg) (opsOf i) s with ⟨h1, -⟩ | ⟨-, h2, -⟩ | ⟨-, -, h3⟩
  · simp [hr] at h1
  · exact absurd hk (by rw [show s.sample i = (sampleAndClear i s).smp from rfl, h2]; simp)
  · rw [h3, show (sampleAndClear i s).smp = s.sample i from rfl, ho, hx]
    exact congrArg _ (h.runs (sampleAndClear i s) as rest k rfl rfl ht hm)

/-- The same command's end, when `k` is the end and TX is used up. -/
theorem exec_ends {i : Instr} {s : State} {as rest : List Answer} {ops k : List Op} {ws : List WireItem} {tx : List Byte}
    {g : State → State} (hr : s.run = false) (hk : checksHold (checksOf i s.cfg) s.cfg (s.sample i) = true)
    (ho : opsOf i s.cfg (s.sample i) = ops ++ k) (h : Runs2 s.cfg (s.sample i) ops ws tx) (ht : tx <+: s.txFifo)
    (hf : i.format = .fALD → tx = s.txFifo)
    (hg : ∀ t, settle k t = finish .ok (g t)) (hgs : ∀ t, (g t).smp = t.smp ∧ (g t).txFifo = t.txFifo)
    (hx : s.xp = as ++ rest) (hm : meets s.cfg (wireCalls s.cfg s.tm ws) as = true) :
    exec i s = .next { g ((sampleAndClear i s).did2 (wireCalls s.cfg s.tm ws) as tx.length) with
      result := .ok, run := false, done := true, todo := [], xp := rest } := by
  rw [exec_runs hr hk ho h ht hx hm, hg, finish_eq, drive_stuck]
  · rfl
  · intro hfmt
    rw [(hgs _).1] at hfmt
    rw [(hgs _).2]
    show s.txFifo.drop tx.length = []
    rw [hf hfmt]
    simp

/-- What `exec_ends` leaves is the command's completed state. -/
theorem did2_completed (i : Instr) (s : State) (ws : List WireItem) (as rest : List Answer) (m : Nat) :
    { (sampleAndClear i s).did2 (wireCalls s.cfg s.tm ws) as m with
      result := .ok, run := false, done := true, todo := [], xp := rest } =
    { s.completed i ws as rest with txFifo := s.txFifo.drop m, txUsed := m } := by
  simp [State.did2, State.did, State.completed, State.completedBy, sampleAndClear, State.sample, ← sumInto_zero]

/-! ## Sub-commands -/

/-- The trailing wait of a descriptor on the wire. -/
def postWire (c : Cfg) (p : Sampled) (d : CmdDesc) : List WireItem :=
  match d.post with
  | .noPoll => []
  | .pollBusy k => busyWire c p k
  | .pollWel => welWire c p

theorem runs2_post {c : Cfg} {p : Sampled} {d : CmdDesc} (hb : ∀ k, 0 < c.budget k) (hc : d.commit = none) :
    Runs2 c p (tailOps c d) (postWire c p d) [] := by
  unfold tailOps postWire
  rw [hc]
  cases d.post with
  | noPoll => exact (Runs.nil c p).runs2 rfl
  | pollBusy k => exact runs2_wait (sp := busySpec c k) (hb k)
  | pollWel => exact runs2_wait (sp := welSpec c) (hb .wel)

/-- Steps 3 to 5 of a command without a commit (41_sequencer_poller.md R151, 48_composite.md R290). -/
theorem runs2_sub {c : Cfg} {p : Sampled} {d : CmdDesc} {addr addr2 : Word} {len : Nat} {tx used : List Byte}
    (hb : ∀ k, 0 < c.budget k) (hc : d.commit = none) (h : DataFits p d len tx used .plain) :
    Runs2 c p (subOps c p d addr addr2 len) (bracketWire c p d addr addr2 tx .plain ++ postWire c p d) used := by
  have := (runs2_bracket (addr := addr) (addr2 := addr2) h rfl).append (runs2_post (p := p) hb hc)
  rwa [List.append_nil] at this

/-- A bracket on the wire looks at five fields of the descriptor. -/
theorem bracketWire_congr {c : Cfg} {p : Sampled} {d d' : CmdDesc} {addr addr2 : Word} {tx : List Byte} {keep : Role}
    (h1 : d.opc = d'.opc) (h2 : d.addr = d'.addr) (h3 : d.data = d'.data) (h4 : d.opcodeOff = d'.opcodeOff)
    (h5 : d.shape = d'.shape) :
    bracketWire c p d addr addr2 tx keep = bracketWire c p d' addr addr2 tx keep := by
  have hs : d.shapeIn c = d'.shapeIn c := by simp only [CmdDesc.shapeIn, h1, h5]
  simp only [bracketWire, hs, h1, h2, h3, h4]

theorem opsOf_primitive {i : Instr} {c : Cfg} {d : CmdDesc} (p : Sampled) (h : primitiveDesc i c = some d) :
    opsOf i c p = subOps c p d p.addr p.addr2 p.len.toNat ++ [.finish .ok] := by
  cases i <;> simp only [primitiveDesc, Option.some.injEq, reduceCtorEq] at h <;> subst h <;> rfl

/-! ## The operand checks -/

theorem addrLimit_eq (c : Cfg) (a : Bool) :
    addrLimit c a = if a = true then 2 ^ (8 * c.addrBytes[1]) else 2 ^ (8 * c.addrBytes[0]) := by cases a <;> rfl

theorem mem_secBases (c : Cfg) (a : Word) :
    a ∈ c.secBases ↔ ∃ i, i < c.secCount ∧ a = c.secBase + BitVec.ofNat 32 (i * c.secSpacing) := by
  simp only [Cfg.secBases, List.mem_map, List.mem_range, eq_comm]

/-- What each check asks, as a proposition. -/
theorem Check.holds_iff (k : Check) (c : Cfg) (p : Sampled) : k.holds c p = true ↔
    match k with
    | .lenPositive => p.len.toNat ≠ 0
    | .lenAtMost n => p.len.toNat ≤ n
    | .addrFits => p.addr.toNat < addrLimit c p.a4b
    | .addrInSecBase => p.addr ∈ c.secBases
    | .addrInChkSet => p.addr ∈ c.chkSet
    | .addrLeAddr2 => p.addr.toNat ≤ p.addr2.toNat
    | .addr2Fits => p.addr2.toNat < addrLimit c p.a4b
    | .addrInPage => p.addr.toNat < c.pageSize
    | .rangeInPage => p.addr.toNat + p.len.toNat ≤ c.pageSize
    | .rangeFits => p.addr.toNat + p.len.toNat ≤ addrLimit c p.a4b
    | .argAtMost n => p.arg.toNat ≤ n
    | .addrFitsUnlessArg n => p.arg.toNat = n ∨ p.addr.toNat < addrLimit c p.a4b := by
  cases k <;> simp [Check.holds, Nat.one_le_iff_ne_zero]

/-- A command's checks hold exactly when no cause of R313's list is there. -/
theorem checks_legal (i : Instr) (s : State) :
    checksHold (checksOf i s.cfg) s.cfg (s.sample i) = true ↔ illegal i s = false := by
  rw [checksHold, List.all_eq_true]
  simp only [Check.holds_iff, mem_secBases, addrLimit_eq]
  cases i <;>
    simp [checksOf, primitiveDesc, illegal, State.sample, readDesc, writeEnableDesc, writeDisableDesc, readSr1Desc,
      readSr2Desc, readSr3Desc, writeSr1Desc, writeSr2Desc, writeSr3Desc, pageProgramDesc, sectorEraseDesc, block32EraseDesc,
      block64EraseDesc, chipEraseDesc, readJedecIdDesc, readMfrIdDesc, readUniqueIdDesc, secReadDesc, secProgramDesc,
      secEraseDesc, enter4bDesc, exit4bDesc, exitQpiDesc, checksumCalcDesc, checksumReadDesc, pbClearDesc, pbWriteDesc,
      pbReadDesc, pbProgramDesc, pbLoadDesc] <;>
    tauto

end Sys2Proof.Machine
end

