-- ==== Sys2Proof/Tests/Slice0.lean ====
section
/-! SUPPORT. Tests: one step of each command against a trace of 95_test_vectors.md, the decoding of every command word,
an ill-formed term for each check, and for every statement with hypotheses a state and operands that meet them. -/

namespace Sys2Proof.Tests

open Sys2Proof Sys2Proof.Machine

/-! ## The vectors -/

/-- XP accepts; a transfer brings a byte that nothing looks at. -/
def okAns : Answer := { call := .ok, xfer := .done 0x77#8, poll := .matched 0x77#8 }

/-- XP fails the call. -/
def errAns : Answer := { call := .error, xfer := .error, poll := .error }

/-- `SL`. -/
def lo : Call × Answer := (.selectLow, okAns)

/-- `SH`. -/
def hi : Call × Answer := (.selectHigh, okAns)

/-- `X[tt>--]`. -/
def x (b : Byte) : Call × Answer := (.transfer b true, okAns)

/-- `Xq[tt>--]`. -/
def q (b : Byte) : Call × Answer := (.transfer b false, okAns)

/-- `X[tt>rr]`. -/
def xr (b r : Byte) : Call × Answer := (.transfer b true, { okAns with xfer := .done r })

/-- `X[tt>NA]`, or `Xq[tt>NA]` without WAIT. -/
def na (b : Byte) (wait : Bool := true) : Call × Answer := (.transfer b wait, { okAns with xfer := .notAccepted })

/-- `CF(l,r,d)`. -/
def cf (c : Call) : Call × Answer := (c, okAns)

/-- A call answered `Error`. -/
def fail (c : Call) : Call × Answer := (c, errAns)

/-- The vectors' configuration: the seven OPEN opcode bytes given, budgets of 3 where a vector gives none. -/
def vectorCfg (b : List (BudgetClass × Nat)) : Cfg :=
  { Cfg.default with
    budgets := b ++ [(.wel, 3), (.program, 3), (.erase4k, 3), (.erase32k, 3), (.erase64k, 3), (.eraseChip, 3),
      (.srWrite, 3), (.checksum, 3)]
    opc := [(.chkCalc, 0xC1), (.chkRead, 0xC2), (.pbClear, 0xC3), (.pbWrite, 0xC4), (.pbRead, 0xC5),
      (.pbProg, 0xC6), (.pbLoad, 0xC7)] }

/-- The state before a vector: after reset, LASTSR marked so that "unchanged" can be seen. -/
def idle (b : List (BudgetClass × Nat)) : State := { State.reset with cfg := vectorCfg b, lastSr := 0xA9#8 }

/-- What a vector says of the end: RESULT, RX, CKSUM, LASTSR, the flags, TM. -/
structure Seen where
  result : Result
  rx : List Byte := []
  cksum : Word := 0
  lastSr : Byte := 0xA9#8
  a4b : Bool := false
  qpiEn : Bool := false
  dtrEn : Bool := false
  tm : Mode := narrowMode
  deriving DecidableEq, Repr

/-- What the state shows of it. -/
def seen (t : State) : Seen :=
  { result := t.result, rx := t.rx, cksum := t.cksum, lastSr := t.lastSr, a4b := t.a4b, qpiEn := t.qpiEn
    dtrEn := t.dtrEn, tm := t.tm }

/-- One step of the command word `code` from `s`, XP answering as the vector's trace says: the calls made are the
trace's, no answer is left, the command has ended, and the end is the vector's. -/
def meetsVector (s : State) (code : Nat) (trace : List (Call × Answer)) (e : Seen) : Bool :=
  let s1 : State := { s with xp := trace.map (·.2) }
  match step (s1.withFetchWord 8 code) with
  | .next t =>
    t.trace.map (·.call) == trace.map (·.1) && t.xp == [] && !t.run && t.done && t.pos == { st := .idle, i := 0 }
      && t.txFifo == [] && seen t == e
  | _ => false

/-- TV-S01. -/
theorem test_writeEnable_ok : meetsVector (idle []) 0x01
    [lo, x 0x06, hi, lo, x 0x05, xr 0xFF 0x00, hi, lo, x 0x05, xr 0xFF 0x02, hi]
    { result := .ok, lastSr := 0x02 } = true := by decide

/-- TV-S02. -/
theorem test_writeEnable_write_enable_failed : meetsVector (idle [(.wel, 2)]) 0x01
    [lo, x 0x06, hi, lo, x 0x05, xr 0xFF 0x00, hi, lo, x 0x05, xr 0xFF 0x00, hi]
    { result := .writeEnableFailed, lastSr := 0x00 } = true := by decide

/-- TV-S03. -/
theorem test_writeDisable_ok : meetsVector (idle []) 0x02
    [lo, x 0x04, hi]
    { result := .ok } = true := by decide

/-- TV-S04. -/
theorem test_readSr1_ok : meetsVector (idle []) 0x03
    [lo, x 0x05, xr 0xFF 0x03, hi]
    { result := .ok, rx := [0x03#8], cksum := 0x00000003 } = true := by decide

/-- TV-S06. -/
theorem test_writeSr1_ok : meetsVector { idle [] with arg := 255 } 0x06
    [lo, x 0x01, x 0xFF, hi, lo, x 0x05, xr 0xFF 0x01, hi, lo, x 0x05, xr 0xFF 0x01, hi, lo, x 0x05,
     xr 0xFF 0x00, hi]
    { result := .ok, lastSr := 0x00 } = true := by decide

/-- TV-S05. -/
theorem test_writeSr2_ok : meetsVector { idle [] with arg := 2 } 0x07
    [lo, x 0x31, na 0x02, x 0x02, hi, lo, x 0x05, xr 0xFF 0x00, hi]
    { result := .ok, lastSr := 0x00 } = true := by decide

/-- TV-S10. -/
theorem test_writeSr3_transport_command_failed : meetsVector { idle [] with arg := 96 } 0x08
    [lo, fail (.transfer 0x11 true), hi]
    { result := .transportCommandFailed } = true := by decide

/-- TV-S08. -/
theorem test_waitReady_ok : meetsVector { idle [] with arg := 0 } 0x09
    [lo, x 0x05, xr 0xFF 0x00, hi]
    { result := .ok, lastSr := 0x00 } = true := by decide

/-- TV-P20. -/
theorem test_waitReady_transport_command_failed : meetsVector { idle [(.erase32k, 3)] with arg := 3 } 0x09
    [lo, fail (.transfer 0x05 true), hi]
    { result := .transportCommandFailed } = true := by decide

/-- TV-R23. -/
theorem test_readData_ok : meetsVector { idle [] with addr := 0xffffff#32, len := 1 } 0x10
    [lo, x 0x03, x 0xFF, x 0xFF, x 0xFF, xr 0xFF 0x7E, hi]
    { result := .ok, rx := [0x7E#8], cksum := 0x0000007E } = true := by decide

/-- TV-R20. -/
theorem test_readData_invalid_argument : meetsVector { idle [] with addr := 0x000100#32, len := 0 } 0x10
    []
    { result := .invalidArgument } = true := by decide

/-- TV-R02. -/
theorem test_fastRead_ok : meetsVector { idle [] with addr := 0x000100#32, len := 2 } 0x11
    [lo, x 0x0B, x 0x00, x 0x01, x 0x00, x 0xFF, xr 0xFF 0xA1, xr 0xFF 0xB2, hi]
    { result := .ok, rx := [0xA1#8, 0xB2#8], cksum := 0x00000153 } = true := by decide

/-- TV-R30. -/
theorem test_fastRead_transport_command_failed : meetsVector { idle [] with addr := 0x000100#32, len := 2 } 0x11
    [(fail .selectLow)]
    { result := .transportCommandFailed } = true := by decide

/-- TV-R03. -/
theorem test_readDualOut_ok : meetsVector { idle [] with addr := 0x000100#32, len := 2 } 0x12
    [lo, x 0x3B, x 0x00, x 0x01, x 0x00, x 0xFF, cf (conf .l2 .sdr .fromChip), xr 0xFF 0xA1, xr 0xFF 0xB2,
     cf (conf .l1 .sdr .toChip), hi]
    { result := .ok, rx := [0xA1#8, 0xB2#8], cksum := 0x00000153 } = true := by decide

/-- TV-R28. -/
theorem test_readDualOut_transport_data_failed : meetsVector { idle [] with addr := 0x000100#32, len := 2 } 0x12
    [lo, x 0x3B, x 0x00, x 0x01, x 0x00, x 0xFF, cf (conf .l2 .sdr .fromChip), xr 0xFF 0xA1, xr 0xFF 0xB2,
     fail (conf .l1 .sdr .toChip), hi]
    { result := .transportDataFailed, rx := [0xA1#8, 0xB2#8], cksum := 0x00000153,
      tm := ⟨.l2,.sdr,.fromChip⟩ } = true := by decide

/-- TV-R04. -/
theorem test_readDualIo_ok : meetsVector { idle [] with addr := 0x000100#32, len := 2 } 0x13
    [lo, x 0xBB, cf (conf .l2 .sdr .toChip), x 0x00, x 0x01, x 0x00, x 0xFF, cf (conf .l2 .sdr .fromChip),
     xr 0xFF 0xA1, xr 0xFF 0xB2, cf (conf .l1 .sdr .toChip), hi]
    { result := .ok, rx := [0xA1#8, 0xB2#8], cksum := 0x00000153 } = true := by decide

/-- TV-R27. -/
theorem test_readDualIo_transport_command_failed : meetsVector { idle [] with addr := 0x000100#32, len := 2 }
    0x13
    [lo, x 0xBB, fail (conf .l2 .sdr .toChip), hi]
    { result := .transportCommandFailed } = true := by decide

/-- TV-R25. -/
theorem test_readQuadOut_ok : meetsVector { idle [] with addr := 0x000100#32, len := 1 } 0x14
    [lo, x 0x6B, x 0x00, x 0x01, x 0x00, x 0xFF, cf (conf .l4 .sdr .fromChip), xr 0xFF 0xA1,
     cf (conf .l1 .sdr .toChip), hi]
    { result := .ok, rx := [0xA1#8], cksum := 0x000000A1 } = true := by decide

/-- TV-R26. -/
theorem test_readQuadOut_transport_data_failed : meetsVector { idle [] with addr := 0x000100#32, len := 4 } 0x14
    [lo, x 0x6B, x 0x00, x 0x01, x 0x00, x 0xFF, cf (conf .l4 .sdr .fromChip), xr 0xFF 0xA1, xr 0xFF 0xB2,
     fail (.transfer 0xFF true), hi]
    { result := .transportDataFailed, rx := [0xA1#8, 0xB2#8], cksum := 0x00000153,
      tm := ⟨.l4,.sdr,.fromChip⟩ } = true := by decide

/-- TV-R16. -/
theorem test_readQuadIo_ok : meetsVector { idle [] with addr := 0x000100#32, len := 2, qpiEn := true } 0x15
    [lo, cf (conf .l4 .sdr .toChip), x 0xEB, x 0x00, x 0x01, x 0x00, x 0xFF, cf (conf .l4 .sdr .fromChip),
     x 0xFF, x 0xFF, xr 0xFF 0xA1, xr 0xFF 0xB2, hi]
    { result := .ok, rx := [0xA1#8, 0xB2#8], cksum := 0x00000153,
      qpiEn := true, tm := ⟨.l4,.sdr,.fromChip⟩ } = true := by decide

/-- TV-R06. -/
theorem test_readQuadIo_ok_again : meetsVector { idle [] with addr := 0x000100#32, len := 2 } 0x15
    [lo, x 0xEB, cf (conf .l4 .sdr .toChip), x 0x00, x 0x01, x 0x00, x 0xFF, cf (conf .l4 .sdr .fromChip),
     x 0xFF, x 0xFF, xr 0xFF 0xA1, xr 0xFF 0xB2, cf (conf .l1 .sdr .toChip), hi]
    { result := .ok, rx := [0xA1#8, 0xB2#8], cksum := 0x00000153 } = true := by decide

/-- TV-R17. -/
theorem test_readDtr_ok : meetsVector { idle [] with addr := 0x000100#32, len := 2, qpiEn := true } 0x16
    [lo, cf (conf .l4 .sdr .toChip), x 0x0D, cf (conf .l4 .dtr .toChip), x 0x00, x 0x01, x 0x00,
     cf (conf .l4 .dtr .fromChip), x 0xFF, x 0xFF, x 0xFF, x 0xFF, x 0xFF, x 0xFF, xr 0xFF 0xA1, xr 0xFF 0xB2,
     hi]
    { result := .ok, rx := [0xA1#8, 0xB2#8], cksum := 0x00000153,
      qpiEn := true, tm := ⟨.l4,.dtr,.fromChip⟩ } = true := by decide

/-- TV-R29. -/
theorem test_readDtr_transport_command_failed : meetsVector { idle [] with addr := 0x000100#32, len := 1 } 0x16
    [lo, x 0x0D, cf (conf .l1 .dtr .toChip), x 0x00, x 0x01, x 0x00, cf (conf .l4 .dtr .fromChip), x 0xFF,
     x 0xFF, x 0xFF, fail (.transfer 0xFF true), hi]
    { result := .transportCommandFailed, tm := ⟨.l4,.dtr,.fromChip⟩ } = true := by decide

/-- TV-R08. -/
theorem test_readDualIoDtr_ok : meetsVector { idle [] with addr := 0x000100#32, len := 2 } 0x17
    [lo, x 0xBD, cf (conf .l2 .dtr .toChip), x 0x00, x 0x01, x 0x00, x 0xFF, cf (conf .l4 .dtr .fromChip),
     x 0xFF, x 0xFF, x 0xFF, x 0xFF, cf (conf .l2 .dtr .fromChip), xr 0xFF 0xA1, xr 0xFF 0xB2,
     cf (conf .l1 .sdr .toChip), hi]
    { result := .ok, rx := [0xA1#8, 0xB2#8], cksum := 0x00000153 } = true := by decide

/-- TV-R18. -/
theorem test_readDualIoDtr_ok_again : meetsVector { idle [] with addr := 0x000100#32, len := 2, qpiEn := true }
    0x17
    [lo, cf (conf .l4 .sdr .toChip), x 0xBD, cf (conf .l2 .dtr .toChip), x 0x00, x 0x01, x 0x00, x 0xFF,
     cf (conf .l4 .dtr .fromChip), x 0xFF, x 0xFF, x 0xFF, x 0xFF, cf (conf .l2 .dtr .fromChip), xr 0xFF 0xA1,
     xr 0xFF 0xB2, hi]
    { result := .ok, rx := [0xA1#8, 0xB2#8], cksum := 0x00000153,
      qpiEn := true, tm := ⟨.l2,.dtr,.fromChip⟩ } = true := by decide

/-- TV-R09. -/
theorem test_readQuadIoDtr_ok : meetsVector { idle [] with addr := 0x000100#32, len := 2 } 0x18
    [lo, x 0xED, cf (conf .l4 .dtr .toChip), x 0x00, x 0x01, x 0x00, x 0xFF, cf (conf .l4 .dtr .fromChip),
     x 0xFF, x 0xFF, x 0xFF, x 0xFF, x 0xFF, x 0xFF, x 0xFF, xr 0xFF 0xA1, xr 0xFF 0xB2,
     cf (conf .l1 .sdr .toChip), hi]
    { result := .ok, rx := [0xA1#8, 0xB2#8], cksum := 0x00000153 } = true := by decide

/-- TV-R19. -/
theorem test_readQuadIoDtr_ok_again : meetsVector { idle [] with addr := 0x000100#32, len := 2, qpiEn := true }
    0x18
    [lo, cf (conf .l4 .sdr .toChip), x 0xED, cf (conf .l4 .dtr .toChip), x 0x00, x 0x01, x 0x00, x 0xFF,
     cf (conf .l4 .dtr .fromChip), x 0xFF, x 0xFF, x 0xFF, x 0xFF, x 0xFF, x 0xFF, x 0xFF, xr 0xFF 0xA1,
     xr 0xFF 0xB2, hi]
    { result := .ok, rx := [0xA1#8, 0xB2#8], cksum := 0x00000153,
      qpiEn := true, tm := ⟨.l4,.dtr,.fromChip⟩ } = true := by decide

/-- TV-W03. -/
theorem test_pageProgram_ok : meetsVector { idle [] with addr := 0x001000#32, len := 1, txFifo := [90] } 0x20
    [lo, x 0x02, x 0x00, x 0x10, x 0x00, x 0x5A, hi, lo, x 0x05, xr 0xFF 0x00, hi]
    { result := .ok, lastSr := 0x00 } = true := by decide

/-- TV-W02. -/
theorem test_pageProgram_transport_data_failed :
    meetsVector { idle [] with addr := 0x001000#32, len := 4, txFifo := [222,173,190,239] } 0x20
    [lo, x 0x02, x 0x00, x 0x10, x 0x00, q 0xDE, fail (.transfer 0xAD false), hi]
    { result := .transportDataFailed } = true := by decide

/-- TV-W10. -/
theorem test_sectorErase_ok : meetsVector { idle [] with addr := 0x001234#32 } 0x21
    [lo, x 0x20, x 0x00, x 0x12, x 0x34, hi, lo, x 0x05, xr 0xFF 0x01, hi, lo, x 0x05, xr 0xFF 0x00, hi]
    { result := .ok, lastSr := 0x00 } = true := by decide

/-- TV-W15. -/
theorem test_sectorErase_transport_command_failed : meetsVector { idle [] with addr := 0x001000#32 } 0x21
    [lo, x 0x20, x 0x00, x 0x10, x 0x00, (fail .selectHigh)]
    { result := .transportCommandFailed } = true := by decide

/-- TV-W12. -/
theorem test_block32Erase_busy_timeout : meetsVector { idle [(.erase32k, 1)] with addr := 0x008000#32 } 0x22
    [lo, x 0x52, x 0x00, x 0x80, x 0x00, hi, lo, x 0x05, xr 0xFF 0x01, hi]
    { result := .busyTimeout, lastSr := 0x01 } = true := by decide

/-- TV-W13. -/
theorem test_block64Erase_ok : meetsVector { idle [] with addr := 0x1010000#32, a4b := true } 0x23
    [lo, x 0xD8, x 0x01, x 0x01, x 0x00, x 0x00, hi, lo, x 0x05, xr 0xFF 0x00, hi]
    { result := .ok, lastSr := 0x00, a4b := true } = true := by decide

/-- TV-W14. -/
theorem test_chipErase_ok : meetsVector (idle []) 0x24
    [lo, x 0xC7, hi, lo, x 0x05, xr 0xFF 0x01, hi, lo, x 0x05, xr 0xFF 0x01, hi, lo, x 0x05, xr 0xFF 0x00, hi]
    { result := .ok, lastSr := 0x00 } = true := by decide

/-- TV-I01. -/
theorem test_readJedecId_ok : meetsVector (idle []) 0x30
    [lo, x 0x9F, xr 0xFF 0xEF, xr 0xFF 0x40, xr 0xFF 0x18, hi]
    { result := .ok, rx := [0xEF#8, 0x40#8, 0x18#8], cksum := 0x00000147 } = true := by decide

/-- TV-I02. -/
theorem test_readJedecId_ok_again : meetsVector (idle []) 0x30
    [lo, x 0x9F, xr 0xFF 0xFF, xr 0xFF 0xFF, xr 0xFF 0xFF, hi]
    { result := .ok, rx := [0xFF#8, 0xFF#8, 0xFF#8], cksum := 0x000002FD } = true := by decide

/-- TV-I03. -/
theorem test_readMfrId_ok : meetsVector { idle [] with a4b := true } 0x31
    [lo, x 0x90, x 0x00, x 0x00, x 0x00, xr 0xFF 0xEF, xr 0xFF 0x17, hi]
    { result := .ok, rx := [0xEF#8, 0x17#8], cksum := 0x00000106, a4b := true } = true := by decide

/-- TV-I04. -/
theorem test_readUniqueId_ok : meetsVector { idle [] with a4b := true } 0x32
    [lo, x 0x4B, x 0xFF, x 0xFF, x 0xFF, x 0xFF, x 0xFF, xr 0xFF 0x01, xr 0xFF 0x02, xr 0xFF 0x03, xr 0xFF 0x04,
     xr 0xFF 0x05, xr 0xFF 0x06, xr 0xFF 0x07, xr 0xFF 0x08, hi]
    { result := .ok, rx := [0x01#8, 0x02#8, 0x03#8, 0x04#8, 0x05#8, 0x06#8, 0x07#8, 0x08#8], cksum := 0x00000024,
      a4b := true } = true := by decide

/-- TV-I07. -/
theorem test_secRead_ok : meetsVector { idle [] with addr := 0x003000#32, len := 2, a4b := true } 0x34
    [lo, x 0x48, x 0x00, x 0x00, x 0x30, x 0x00, x 0xFF, xr 0xFF 0x5A, xr 0xFF 0xA5, hi]
    { result := .ok, rx := [0x5A#8, 0xA5#8], cksum := 0x000000FF, a4b := true } = true := by decide

/-- TV-I05. -/
theorem test_secRead_invalid_argument : meetsVector { idle [] with addr := 0x001800#32, len := 2 } 0x34
    []
    { result := .invalidArgument } = true := by decide

/-- TV-I10. -/
theorem test_secProgram_ok : meetsVector { idle [] with addr := 0x001000#32, len := 3, txFifo := [1,2,3] } 0x35
    [lo, x 0x42, x 0x00, x 0x10, x 0x00, na 0x01 false, na 0x01 false, q 0x01, q 0x02, x 0x03, hi, lo, x 0x05,
     xr 0xFF 0x00, hi]
    { result := .ok, lastSr := 0x00 } = true := by decide

/-- TV-I11. -/
theorem test_secProgram_invalid_argument :
    meetsVector { idle [] with addr := 0x004000#32, len := 1, txFifo := [0] } 0x35
    []
    { result := .invalidArgument } = true := by decide

/-- TV-I12. -/
theorem test_secErase_busy_timeout : meetsVector { idle [(.erase4k, 2)] with addr := 0x002000#32 } 0x36
    [lo, x 0x44, x 0x00, x 0x20, x 0x00, hi, lo, x 0x05, xr 0xFF 0x01, hi, lo, x 0x05, xr 0xFF 0x01, hi]
    { result := .busyTimeout, lastSr := 0x01 } = true := by decide

/-- TV-M01. -/
theorem test_enter4b_ok : meetsVector (idle []) 0x40
    [lo, x 0xB7, hi]
    { result := .ok, a4b := true } = true := by decide

/-- TV-M03. -/
theorem test_enter4b_transport_command_failed : meetsVector (idle []) 0x40
    [lo, fail (.transfer 0xB7 true), hi]
    { result := .transportCommandFailed } = true := by decide

/-- TV-M04. -/
theorem test_exit4b_ok : meetsVector (idle []) 0x41
    [lo, x 0xE9, hi]
    { result := .ok } = true := by decide

/-- TV-M05. -/
theorem test_exit4b_transport_command_failed : meetsVector { idle [] with a4b := true } 0x41
    [lo, x 0xE9, (fail .selectHigh)]
    { result := .transportCommandFailed, a4b := true } = true := by decide

/-- TV-M06. -/
theorem test_enterQpi_ok : meetsVector (idle []) 0x42
    [lo, x 0x35, xr 0xFF 0x02, hi, lo, x 0x38, hi]
    { result := .ok, qpiEn := true } = true := by decide

/-- TV-M07. -/
theorem test_enterQpi_transport_command_failed : meetsVector (idle []) 0x42
    [lo, x 0x35, xr 0xFF 0x00, hi]
    { result := .transportCommandFailed } = true := by decide

/-- TV-M13. -/
theorem test_exitQpi_ok : meetsVector (idle []) 0x43
    [lo, x 0xFF, hi]
    { result := .ok } = true := by decide

/-- TV-M14. -/
theorem test_exitQpi_transport_command_failed :
    meetsVector { idle [] with qpiEn := true, tm := ⟨.l4,.sdr,.toChip⟩ } 0x43
    [lo, x 0xFF, fail (conf .l1 .sdr .toChip), hi]
    { result := .transportCommandFailed, qpiEn := true, tm := ⟨.l4,.sdr,.toChip⟩ } = true := by decide

/-- TV-M15. -/
theorem test_dtrEnable_ok : meetsVector (idle []) 0x44
    []
    { result := .ok, dtrEn := true } = true := by decide

/-- TV-M16. -/
theorem test_dtrDisable_ok : meetsVector { idle [] with dtrEn := true } 0x45
    []
    { result := .ok } = true := by decide

/-- TV-M17. -/
theorem test_softReset_ok : meetsVector { idle [] with a4b := true, dtrEn := true } 0x46
    [lo, x 0x66, hi, lo, x 0x99, hi]
    { result := .ok, a4b := true, dtrEn := true } = true := by decide

/-- TV-M18. -/
theorem test_softReset_transport_command_failed : meetsVector (idle []) 0x46
    [lo, fail (.transfer 0x66 true), hi]
    { result := .transportCommandFailed } = true := by decide

/-- TV-C01. -/
theorem test_checksumCalc_ok : meetsVector { idle [] with addr := 0x001000#32, addr2 := 0x001000#32 } 0x50
    [lo, x 0xC1, x 0x00, x 0x10, x 0x00, x 0x00, x 0x10, x 0x00, hi, lo, x 0x05, xr 0xFF 0x00, hi]
    { result := .ok, lastSr := 0x00 } = true := by decide

/-- TV-C06. -/
theorem test_checksumCalc_busy_timeout :
    meetsVector { idle [(.checksum, 1)] with addr := 0x001000#32, addr2 := 0x0010ff#32 } 0x50
    [lo, x 0xC1, x 0x00, x 0x10, x 0x00, x 0x00, x 0x10, x 0xFF, hi, lo, x 0x05, xr 0xFF 0x01, hi]
    { result := .busyTimeout, lastSr := 0x01 } = true := by decide

/-- TV-C07. -/
theorem test_checksumRead_ok : meetsVector (idle []) 0x51
    [lo, x 0xC2, xr 0xFF 0x12, xr 0xFF 0x34, xr 0xFF 0x56, xr 0xFF 0x78, hi]
    { result := .ok, rx := [0x12#8, 0x34#8, 0x56#8, 0x78#8], cksum := 0x00000114 } = true := by decide

/-- TV-C08. -/
theorem test_pbClear_ok : meetsVector (idle []) 0x58
    [lo, x 0xC3, hi]
    { result := .ok } = true := by decide

/-- TV-C09. -/
theorem test_pbWrite_ok : meetsVector { idle [] with addr := 254, len := 2, txFifo := [170,85] } 0x59
    [lo, x 0xC4, x 0x00, x 0x00, x 0xFE, q 0xAA, x 0x55, hi]
    { result := .ok } = true := by decide

/-- TV-C10. -/
theorem test_pbWrite_invalid_argument : meetsVector { idle [] with addr := 255, len := 2, txFifo := [170,85] }
    0x59
    []
    { result := .invalidArgument } = true := by decide

/-- TV-C12. -/
theorem test_pbRead_ok : meetsVector { idle [] with addr := 255, len := 1 } 0x5A
    [lo, x 0xC5, x 0x00, x 0x00, x 0xFF, xr 0xFF 0x3C, hi]
    { result := .ok, rx := [0x3C#8], cksum := 0x0000003C } = true := by decide

/-- TV-C11. -/
theorem test_pbRead_invalid_argument : meetsVector { idle [] with addr := 0x000100#32, len := 1 } 0x5A
    []
    { result := .invalidArgument } = true := by decide

/-- TV-C13. -/
theorem test_pbProgram_ok : meetsVector { idle [] with addr := 0x001100#32 } 0x5B
    [lo, x 0xC6, x 0x00, x 0x11, x 0x00, hi, lo, x 0x05, xr 0xFF 0x01, hi, lo, x 0x05, xr 0xFF 0x00, hi]
    { result := .ok, lastSr := 0x00 } = true := by decide

/-- TV-C14. -/
theorem test_pbLoad_ok : meetsVector { idle [] with addr := 0x1001100#32, a4b := true } 0x5C
    [lo, x 0xC7, x 0x01, x 0x00, x 0x11, x 0x00, hi]
    { result := .ok, a4b := true } = true := by decide

/-- TV-K03. -/
theorem test_read_ok : meetsVector { idle [] with addr := 0x000100#32, len := 2, qpiEn := true } 0x80
    [lo, cf (conf .l4 .sdr .toChip), x 0xEB, x 0x00, x 0x01, x 0x00, x 0xFF, cf (conf .l4 .sdr .fromChip),
     x 0xFF, x 0xFF, xr 0xFF 0xA1, xr 0xFF 0xB2, hi]
    { result := .ok, rx := [0xA1#8, 0xB2#8], cksum := 0x00000153,
      qpiEn := true, tm := ⟨.l4,.sdr,.fromChip⟩ } = true := by decide

/-- TV-K03. -/
theorem test_read_ok_again : meetsVector { idle [] with addr := 0x000100#32, len := 2, qpiEn := true } 0x80
    [lo, cf (conf .l4 .sdr .toChip), x 0xEB, x 0x00, x 0x01, x 0x00, x 0xFF, cf (conf .l4 .sdr .fromChip),
     x 0xFF, x 0xFF, xr 0xFF 0xA1, xr 0xFF 0xB2, hi]
    { result := .ok, rx := [0xA1#8, 0xB2#8], cksum := 0x00000153,
      qpiEn := true, tm := ⟨.l4,.sdr,.fromChip⟩ } = true := by decide

/-- K10-1000-1-0. -/
theorem test_write_ok : meetsVector { idle [] with addr := 0x001000#32, len := 1, txFifo := [5] } 0x81
    [lo, x 0x06, hi, lo, x 0x05, xr 0xFF 0x02, hi, lo, x 0x02, x 0x00, x 0x10, x 0x00, x 0x05, hi, lo, x 0x05,
     xr 0xFF 0x00, hi]
    { result := .ok, lastSr := 0x00 } = true := by decide

/-- TV-K12. -/
theorem test_write_busy_timeout :
    meetsVector { idle [] with addr := 0x0010fe#32, len := 4, txFifo := [17,34,51,68] } 0x81
    [lo, x 0x06, hi, lo, x 0x05, xr 0xFF 0x02, hi, lo, x 0x02, x 0x00, x 0x10, x 0xFE, q 0x11, x 0x22, hi, lo,
     x 0x05, xr 0xFF 0x01, hi, lo, x 0x05, xr 0xFF 0x01, hi, lo, x 0x05, xr 0xFF 0x01, hi]
    { result := .busyTimeout, lastSr := 0x01 } = true := by decide

/-- TV-K16. -/
theorem test_erase_ok : meetsVector { idle [] with addr := 0xffffffff#32, arg := 3 } 0x82
    [lo, x 0x06, hi, lo, x 0x05, xr 0xFF 0x02, hi, lo, x 0xC7, hi, lo, x 0x05, xr 0xFF 0x01, hi, lo, x 0x05,
     xr 0xFF 0x00, hi]
    { result := .ok, lastSr := 0x00 } = true := by decide

/-- TV-K19. -/
theorem test_erase_write_enable_failed : meetsVector { idle [] with addr := 0x001000#32, arg := 0 } 0x82
    [lo, x 0x06, hi, lo, x 0x05, xr 0xFF 0x00, hi, lo, x 0x05, xr 0xFF 0x00, hi, lo, x 0x05, xr 0xFF 0x00, hi]
    { result := .writeEnableFailed, lastSr := 0x00 } = true := by decide

/-- TV-K20. -/
theorem test_getId_ok : meetsVector (idle []) 0x83
    [lo, x 0x9F, xr 0xFF 0xEF, xr 0xFF 0x40, xr 0xFF 0x18, hi]
    { result := .ok, rx := [0xEF#8, 0x40#8, 0x18#8], cksum := 0x00000147 } = true := by decide

/-- TV-K21. -/
theorem test_getStatus_ok : meetsVector (idle []) 0x84
    [lo, x 0x05, xr 0xFF 0x03, hi]
    { result := .ok, rx := [0x03#8], cksum := 0x00000003 } = true := by decide

/-! ## Decoding: each code written out from the table of 30_encoding.md R96 -/

/-- READ_SR2 (R184): its worked bracket, one byte captured. -/
theorem test_readSr2_ok :
    meetsVector (idle []) 0x04 [lo, x 0x35, xr 0xFF 0x02, hi] { result := .ok, rx := [0x02#8], cksum := 2 } = true := by
  decide

/-- READ_SR3 (R185): its worked bracket, one byte captured. -/
theorem test_readSr3_ok :
    meetsVector (idle []) 0x05 [lo, x 0x15, xr 0xFF 0x60, hi] { result := .ok, rx := [0x60#8], cksum := 96 } = true := by
  decide

theorem test_decode_status_and_control :
    [0b00000001, 0b00000010, 0b00000011, 0b00000100, 0b00000101, 0b00000110, 0b00000111, 0b00001000, 0b00001001].map
      (decodeTableWord 8) =
    [some .writeEnable, some .writeDisable, some .readSr1, some .readSr2, some .readSr3, some .writeSr1,
      some .writeSr2, some .writeSr3, some .waitReady] := by decide

theorem test_decode_read :
    [0b00010000, 0b00010001, 0b00010010, 0b00010011, 0b00010100, 0b00010101, 0b00010110, 0b00010111, 0b00011000].map
      (decodeTableWord 8) =
    [some .readData, some .fastRead, some .readDualOut, some .readDualIo, some .readQuadOut, some .readQuadIo,
      some .readDtr, some .readDualIoDtr, some .readQuadIoDtr] := by decide

theorem test_decode_program_and_erase :
    [0b00100000, 0b00100001, 0b00100010, 0b00100011, 0b00100100].map (decodeTableWord 8) =
    [some .pageProgram, some .sectorErase, some .block32Erase, some .block64Erase, some .chipErase] := by decide

theorem test_decode_identification_and_security :
    [0b00110000, 0b00110001, 0b00110010, 0b00110100, 0b00110101, 0b00110110].map (decodeTableWord 8) =
    [some .readJedecId, some .readMfrId, some .readUniqueId, some .secRead, some .secProgram, some .secErase] := by
  decide

theorem test_decode_mode_and_reset :
    [0b01000000, 0b01000001, 0b01000010, 0b01000011, 0b01000100, 0b01000101, 0b01000110].map (decodeTableWord 8) =
    [some .enter4b, some .exit4b, some .enterQpi, some .exitQpi, some .dtrEnable, some .dtrDisable,
      some .softReset] := by decide

theorem test_decode_checksum_and_page_buffer :
    [0b01010000, 0b01010001, 0b01011000, 0b01011001, 0b01011010, 0b01011011, 0b01011100].map (decodeTableWord 8) =
    [some .checksumCalc, some .checksumRead, some .pbClear, some .pbWrite, some .pbRead, some .pbProgram,
      some .pbLoad] := by decide

theorem test_decode_composite :
    [0b10000000, 0b10000001, 0b10000010, 0b10000011, 0b10000100].map (decodeTableWord 8) =
    [some .read, some .write, some .erase, some .getId, some .getStatus] := by decide

/-- R101, R284: the gaps beside the table's ranges are no commands. -/
theorem test_decode_refuses_by_name :
    decodeCode 0x00#8 = .error .reservedCode ∧ decodeCode 0x60#8 = .error .lockGroup ∧
    decodeCode 0x6F#8 = .error .lockGroup ∧ decodeCode 0x0A#8 = .error .unlisted ∧ decodeCode 0x19#8 = .error .unlisted ∧
    decodeCode 0x33#8 = .error .unlisted ∧ decodeCode 0x85#8 = .error .unlisted ∧ decodeCode 0xFF#8 = .error .unlisted := by
  decide

/-! ## Well-formedness: an ill-formed term for each check -/

/-- R94: one word for each check, refused by it. -/
theorem test_phase_word_checks :
    decodePD 0b0000000000010000#16 = .error .dummyNeedsDtr ∧ decodePD 0b0000000000000011#16 = .error .linesReserved ∧
    decodePD 0b1000000000000000#16 = .error .reservedBits ∧ decodePD 0b0000100000000000#16 = .error .reservedBits ∧
    decodePD 0b0000010010000000#16 = .error .captureConflict ∧
    decodePD 0b0000010100000000#16 = .error .captureConflict ∧
    decodePD 0b0000000100010110#16 = .error .presetMovesNoData ∧
    decodePD 0b0000010000010110#16 = .error .presetMovesNoData := by decide

/-- R93: a quad double-rate dummy preset 3 with DISCARD, and a one-line captured byte with WAIT. -/
theorem test_phase_words :
    decodePD 0b0000000010111110#16 =
      .ok { lines := .l4, rate := .dtr, dir := .fromChip, dummy := .dp3, actions := { discard := true } } ∧
    decodePD 0b0000010001001000#16 =
      .ok { lines := .l1, rate := .sdr, dir := .toChip, dummy := .none, actions := { wait := true, capture := true } } := by
  decide

/-- R8, R9, R47: one configuration for each check, refused by it; the default and the vectors' are well formed. -/
theorem test_configuration_checks :
    { Cfg.default with budgets := [(.wel, 0)] }.fault? = some .budgetNotPositive ∧
    { Cfg.default with budgets := [(.wel, 4294967296)] }.fault? = some .budgetTooWide ∧
    { Cfg.default with secBase := 0xFFFFE000#32 }.fault? = some .secPastTop ∧
    { Cfg.default with addrBytes := #v[3, 5] }.fault? = some .addrTooWide ∧
    { Cfg.default with addrBytes := #v[4, 3] }.fault? = some .addrTooWide ∧
    { Cfg.default with srCount := 2 }.fault? = some .fixedCount ∧
    { Cfg.default with nDtrPresets := 4 }.fault? = some .fixedCount ∧
    { Cfg.default with lines := [.l1] }.fault? = some .fixedCount ∧
    { Cfg.default with operandBits := 33 }.fault? = some .operandTooWide ∧
    { Cfg.default with secBase := 0xFFFFDFFF#32, operandBits := 24 }.wf = true ∧
    { Cfg.default with pageSize := 0 }.fault? = some .pageEmpty ∧
    { Cfg.default with cksumBits := 33 }.fault? = some .cksumTooWide ∧
    Cfg.default.wf = true ∧ (vectorCfg []).wf = true := by decide

/-! ## The register image and the acts of the other agents -/

/-- The state an outcome carries (the reset state where it carries none). -/
def after (o : Host.Outcome State Fault Refusal) : State :=
  match o with
  | .next t => t
  | _ => State.reset

/-- The acts taken one after another, at most `fuel` steps. -/
def steps (fuel : Nat) (s : State) : State :=
  match fuel with
  | 0 => s
  | fuel + 1 => steps fuel (after (step s))

/-- TV-D10: an undefined code. -/
theorem test_undefined_code :
    seen (after (step ((idle []).withFetchWord 8 0x60))) = { result := .invalidArgument } ∧
    (after (step ((idle []).withFetchWord 8 0x60))).trace = [] := by decide

/-- 10_state.md R25: HOST supplies the bytes after the command has started; SEQ holds at each. -/
def holding : State :=
  after (step ({ idle [] with addr := 0x000100#32, len := 2, xp := List.replicate 40 okAns }.withFetchWord 8 0x20))

theorem test_holds_for_txdata : holding.pos = { st := .dat, i := 0 } ∧ holding.run = true ∧ holding.trace.length = 5 := by
  decide

theorem test_goes_on_with_txdata :
    let t := steps 2 { holding with env := [.write 0x28 0x55#32] }
    t.pos = { st := .dat, i := 1 } ∧ t.trace.length = 6 ∧ t.run = true := by decide

/-- 10_state.md R37: RXDATA pops in order; RXCOUNT stays. -/
theorem test_rxdata_pops :
    (steps 3 { idle [] with rx := [0xA1#8, 0xB2#8], env := [.read 0x2C, .read 0x2C, .read 0x30] }).busOut =
      [0xA1#32, 0xB2#32, 2#32] := by decide

/-- 00_scope.md R9: operand registers of 24 bits keep the low 24 bits of a write. -/
theorem test_operand_width :
    let t := steps 2 { State.reset with
      cfg := { Cfg.default with operandBits := 24 }, env := [.write 0x04 0x12345678#32, .write 0x0C 0x1FF#32] }
    t.addr = 0x00345678#32 ∧ t.arg = 0xFF#8 := by decide

/-- 40_phase_encoder.md R137 where a bracket ends in a wide address phase: PB_LOAD with a quad address returns the
transport to one line before `select_high` (log 17). -/
theorem test_wide_address_returns_the_mode :
    let c := { vectorCfg [] with shapes := [(.pbLoad, { plainShape with addrM := { lines := .l4, rate := .sdr } })] }
    callsMade (exec .pbLoad { State.reset with cfg := c, addr := 0x001100#32, xp := List.replicate 20 okAns }) =
      [.selectLow, sent 0xC7#8, conf .l4 .sdr .toChip, sent 0x00#8, sent 0x11#8, sent 0x00#8, conf .l1 .sdr .toChip,
       .selectHigh] := by decide

/-- 41_sequencer_poller.md R169: a dummy item in READ_SR1's shape is in its bracket and in no poll read. -/
theorem test_poll_read_has_no_dummy :
    let c := { vectorCfg [] with shapes := [(.rdsr1, { plainShape with dummy := [.bytes 1 1 .l1 .sdr .toChip] })] }
    let s := { State.reset with cfg := c, xp := List.replicate 20 { okAns with xfer := .done 0x00#8 } }
    callsMade (exec .waitReady s) = [.selectLow, sent 0x05#8, sent 0xFF#8, .selectHigh] ∧
    callsMade (exec .readSr1 s) = [.selectLow, sent 0x05#8, sent 0xFF#8, sent 0xFF#8, .selectHigh] := by decide

/-- 20_memory.md R71: a security base that needs four address bytes is refused while A4B = 0 (log 36). -/
theorem test_security_base_needs_its_width :
    let c := { vectorCfg [] with secBase := 0x01000000#32 }
    let s := { State.reset with cfg := c, addr := 0x01000000#32, len := 1, xp := List.replicate 20 okAns }
    (after (exec .secRead s)).result = .invalidArgument ∧ (after (exec .secRead { s with a4b := true })).result = .ok := by
  decide

/-- 20_memory.md R71: so is a page-buffer offset that needs more bytes than are sent, in a configuration whose addresses
have one byte and whose pages are longer (log 36). -/
theorem test_buffer_offset_needs_its_width :
    let c := { vectorCfg [] with addrBytes := #v[1, 2] }
    let s := { State.reset with cfg := { c with pageSize := 512 }, addr := 0x100#32, len := 1, xp := List.replicate 20 okAns }
    (after (exec .pbRead s)).result = .invalidArgument ∧ (after (exec .pbRead { s with addr := 0xFF#32 })).result = .ok ∧
      (after (exec .pbRead { s with a4b := true })).result = .ok := by decide

/-- 10_state.md R28: the three address phases of READ_MFR_ID stand at 0, 1 and 2 whatever ADDR_BYTES is. -/
theorem test_zero_address_index :
    [0, 1, 2].all (fun k =>
      let s := { idle [] with cfg := { vectorCfg [] with addrBytes := #v[1, 2] }, xp := List.replicate (2 + k) okAns }
      (after (exec .readMfrId s)).pos == { st := .adr, i := k }) = true := by decide

/-- 10_state.md R27: the index of an address phase starts again for ADDR2 (log 15): SEQ stands at ADDR2's first byte. -/
theorem test_address_index_restarts :
    let t := after (exec .checksumCalc { idle [] with addr := 0x1000#32, addr2 := 0x1000#32, xp := List.replicate 5 okAns })
    t.pos = { st := .adr, i := 0 } ∧ t.trace.length = 5 := by decide

/-- 41_sequencer_poller.md R166: a transfer refused in the second read of a wait leaves POS at (POLL, 1) until the abort
path's `select_high` is answered, and then at (IDLE, 0). -/
theorem test_failure_in_a_poll_read_stays_in_poll :
    let busy := { okAns with xfer := .done 0x01#8 }
    let t := after (exec .waitReady { idle [] with xp := List.replicate 6 busy ++ [errAns] })
    t.pos = { st := .poll, i := 1 } ∧ t.run = true ∧ pendingCall t = some .selectHigh ∧
      (after (step { t with xp := [okAns] })).pos = { st := .idle, i := 0 } ∧
      (after (step { t with xp := [okAns] })).result = .transportDataFailed := by decide

/-- 10_state.md R38: STATUS after a write enable that timed out is DONE with code 5. -/
theorem test_status_register : ({ idle [] with done := true, result := .writeEnableFailed } : State).statusReg = 0x52#8 := by
  decide

/-! ## Witnesses: concrete states and operands that meet the hypotheses of each statement -/

/-- The eight budget classes. -/
def classes : List BudgetClass := [.wel, .program, .erase4k, .erase32k, .erase64k, .eraseChip, .srWrite, .checksum]

/-- An answer that meets a role: status bytes show WEL and QE set and BUSY clear, but where the wait is to go on. -/
def answerFor (r : Role) : Answer :=
  match r with
  | .pending _ => { call := .ok, xfer := .done 0x01#8, poll := .matched 0x01#8 }
  | .quadOff => { call := .ok, xfer := .done 0x00#8, poll := .matched 0x00#8 }
  | .declined => { okAns with xfer := .notAccepted }
  | _ => { call := .ok, xfer := .done 0x02#8, poll := .matched 0x02#8 }

/-- A state in which command `i` has good operands, in the given modes. -/
def ready (i : Instr) (a4b qpi : Bool) (impl : PollImpl) : State :=
  { State.reset with
    cfg := { vectorCfg [] with pollImpl := impl }
    addr := match i with
      | .pbWrite => 0xFE#32
      | .pbRead => 0xFE#32
      | .write => 0x10FF#32
      | _ => 0x1000#32
    addr2 := 0x1000#32
    len := 2
    txFifo := [0xAA#8, 0x55#8]
    a4b := a4b
    qpiEn := qpi
    tm := if qpi then { lines := .l4, rate := .sdr, dir := .toChip } else narrowMode }

/-- The calls of `ws` from a state, and an answer for each. -/
def answersTo (s : State) (ws : List WireItem) : List Answer :=
  (wireCalls s.cfg s.tm ws).map fun k => answerFor k.role

/-- The hypotheses of `Completes i`. -/
def CompletesHyps (i : Instr) (s : State) (as rest : List Answer) : Prop :=
  s.run = false ∧ (∀ k, 0 < s.cfg.budget k) ∧ operandsGood i s = true ∧ s.xp = as ++ rest ∧
    meets s.cfg (wireCalls s.cfg s.tm (wireOf i s)) as = true

/-- The same as one test. -/
def completesHyps (i : Instr) (s : State) (as rest : List Answer) : Bool :=
  !s.run && classes.all (fun k => 0 < s.cfg.budget k) && operandsGood i s && s.xp == as ++ rest &&
    meets s.cfg (wireCalls s.cfg s.tm (wireOf i s)) as

theorem mem_classes (k : BudgetClass) : k ∈ classes := by cases k <;> decide

theorem completesHyps_sound {i s as rest} (h : completesHyps i s as rest = true) : CompletesHyps i s as rest := by
  simp only [completesHyps, Bool.and_eq_true, List.all_eq_true, decide_eq_true_eq, Bool.not_eq_true', beq_iff_eq] at h
  obtain ⟨⟨⟨⟨h1, h2⟩, h3⟩, h4⟩, h5⟩ := h
  exact ⟨h1, fun k => h2 k (mem_classes k), h3, h4, h5⟩

/-- `s` with answers for what command `i` puts on the wire, and one left over. -/
def answered (i : Instr) (s : State) : State := { s with xp := answersTo s (wireOf i s) ++ [errAns] }

/-- Command `i` can be met from `s`. -/
def canComplete (i : Instr) (s : State) : Bool := completesHyps i (answered i s) (answersTo s (wireOf i s)) [errAns]

/-- The modes after reset with a poll of reads, and the other addressing mode, protocol mode and poll. -/
def inBothModes (i : Instr) : Bool := canComplete i (ready i false false .reads) && canComplete i (ready i true true .assisted)

theorem witness_StatusReadsComplete : [Instr.readSr1, .readSr2, .readSr3, .getStatus].all inBothModes = true := by decide
theorem witness_IdentificationReadsComplete :
    [Instr.readJedecId, .readMfrId, .readUniqueId, .getId].all inBothModes = true := by decide
theorem witness_ReadCommandsComplete :
    [Instr.readData, .fastRead, .readDualOut, .readDualIo, .readQuadOut, .readQuadIo, .readDtr, .readDualIoDtr,
      .readQuadIoDtr, .read].all inBothModes = true := by decide
theorem witness_SecurityRegisterCommandsComplete : [Instr.secRead, .secProgram, .secErase].all inBothModes = true := by decide
theorem witness_PageBufferCommandsComplete :
    [Instr.pbClear, .pbWrite, .pbRead, .pbProgram, .pbLoad].all inBothModes = true := by decide
theorem witness_ChecksumRangeCommandsComplete : [Instr.checksumCalc, .checksumRead].all inBothModes = true := by decide
theorem witness_WriteEnableAndDisableComplete : [Instr.writeEnable, .writeDisable].all inBothModes = true := by decide
theorem witness_StatusWritesComplete : [Instr.writeSr1, .writeSr2, .writeSr3].all inBothModes = true := by decide
theorem witness_PageProgramCompletes : inBothModes .pageProgram = true := by decide
theorem witness_AddressModeSwitchesComplete : [Instr.enter4b, .exit4b].all inBothModes = true := by decide
theorem witness_QuadModeSwitchesComplete : [Instr.enterQpi, .exitQpi].all inBothModes = true := by decide
theorem witness_DoubleRateSwitchesComplete : [Instr.dtrEnable, .dtrDisable].all inBothModes = true := by decide
theorem witness_SoftResetCompletes : inBothModes .softReset = true := by decide
/-- Two chunks: the last byte of a page and the first of the next. -/
theorem witness_WriteCompletesAsItsChunks : inBothModes .write = true := by decide
/-- ARG at both ends of its range. -/
theorem witness_WaitReadyCompletes :
    inBothModes .waitReady = true ∧ canComplete .waitReady { ready .waitReady false false .reads with arg := 7 } = true := by
  decide
/-- ERASE with ARG = 0, and with ARG = 3, whose address is not looked at. -/
theorem witness_EraseCommandsComplete :
    [Instr.sectorErase, .block32Erase, .block64Erase, .chipErase, .erase].all inBothModes = true ∧
    canComplete .erase { ready .erase false false .reads with arg := 3, addr := 0xFFFFFFFF#32 } = true := by decide

/-- What the tests above say, as the hypotheses themselves, for one command. -/
theorem witness_Completes :
    CompletesHyps .fastRead (answered .fastRead (ready .fastRead false false .reads))
      (answersTo (ready .fastRead false false .reads) (wireOf .fastRead (ready .fastRead false false .reads))) [errAns] :=
  completesHyps_sound (by decide)

/-! ### The limits of R313's list: the last legal value and the first illegal one -/

/-- Addresses of 3 and of 4 bytes. -/
theorem witness_illegal_address :
    illegal .readData { ready .readData false false .reads with addr := 0x00FFFFFF#32 } = false ∧
    illegal .readData { ready .readData false false .reads with addr := 0x01000000#32 } = true ∧
    illegal .readData { ready .readData true false .reads with addr := 0xFFFFFFFF#32 } = false ∧
    illegal .sectorErase { ready .sectorErase false false .reads with addr := 0x01000000#32 } = true ∧
    illegal .erase { ready .erase false false .reads with addr := 0x01000000#32, arg := 2 } = true ∧
    illegal .erase { ready .erase false false .reads with addr := 0x01000000#32, arg := 3 } = false := by decide

/-- Lengths: zero, a page, a security register, and the top of the address space. -/
theorem witness_illegal_length :
    illegal .readData { ready .readData false false .reads with len := 0 } = true ∧
    illegal .pageProgram { ready .pageProgram false false .reads with len := 256 } = false ∧
    illegal .pageProgram { ready .pageProgram false false .reads with len := 257 } = true ∧
    illegal .secRead { ready .secRead false false .reads with len := 256 } = false ∧
    illegal .secRead { ready .secRead false false .reads with len := 257 } = true ∧
    illegal .pbWrite { ready .pbWrite false false .reads with addr := 0xFF#32, len := 1 } = false ∧
    illegal .pbWrite { ready .pbWrite false false .reads with addr := 0xFF#32, len := 2 } = true ∧
    illegal .write { ready .write false false .reads with addr := 0x00FFFFFF#32, len := 1 } = false ∧
    illegal .write { ready .write false false .reads with addr := 0x00FFFFFF#32, len := 2 } = true ∧
    illegal .write { ready .write true false .reads with addr := 0xFFFFFFFF#32, len := 2 } = true := by decide

/-- ARG, security bases, and checksum ranges. -/
theorem witness_illegal_operand :
    illegal .waitReady { ready .waitReady false false .reads with arg := 7 } = false ∧
    illegal .waitReady { ready .waitReady false false .reads with arg := 8 } = true ∧
    illegal .erase { ready .erase false false .reads with arg := 4 } = true ∧
    illegal .secErase { ready .secErase false false .reads with addr := 0x3000#32 } = false ∧
    illegal .secErase { ready .secErase false false .reads with addr := 0x3001#32 } = true ∧
    illegal .checksumCalc { ready .checksumCalc false false .reads with addr2 := 0x0FFF#32 } = true ∧
    illegal .checksumCalc { ready .checksumCalc false false .reads with addr2 := 0x01000000#32 } = true ∧
    illegal .checksumCalc { ready .checksumCalc false false .reads with addr := 0x1001#32 } = true := by decide

/-- The three clauses: an illegal command; a legal one that ends; a code outside the table. -/
theorem witness_InvalidArgumentHasTheseCausesOnly :
    (let s := { ready .readData false false .reads with len := 0 }
     s.run = false ∧ illegal .readData s = true) ∧
    (let s := answered .readSr1 (ready .readSr1 false false .reads)
     s.run = false ∧ illegal .readSr1 s = false ∧ exec .readSr1 s = .next (after (exec .readSr1 s)) ∧
       (after (exec .readSr1 s)).run = false) ∧
    (State.reset.run = false ∧ ∀ i, encode i ≠ 0x0A#8) :=
  ⟨by decide, ⟨by decide, by decide, rfl, by decide⟩, by decide, fun i => by cases i <;> decide⟩

/-! ### Failures and waits -/

/-- The hypotheses of `FailsAtFirstRefusal i`: `ks` reads in vain, `ms` bytes declined, the calls split at `m` and the call
there answered `bad`. -/
def failsHyps (i : Instr) (s0 : State) (ks ms : List Nat) (m : Nat) (bad : Answer) : Bool :=
  let cs := partsCalls s0.cfg (s0.sample i) s0.tm (partsOf i s0) ks ms
  let as := (cs.take m).map fun k => answerFor k.role
  let s := { s0 with xp := as ++ bad :: okAns :: [errAns] }
  !s.run && operandsGood i s && withinBudget s.cfg (partsOf i s) ks &&
    (match cs[m]? with
      | none => false
      | some k =>
        partsCalls s.cfg (s.sample i) s.tm (partsOf i s) ks ms == cs.take m ++ k :: cs.drop (m + 1) && refuses k bad) &&
    meets s.cfg (cs.take m) as

/-- Every command that makes a call, refused at its first: `select_low`, or the assisted poll. -/
theorem witness_FailuresEndTheCommandAtOnce :
    [Instr.writeEnable, .writeDisable, .readSr1, .readSr2, .readSr3, .writeSr1, .writeSr2, .writeSr3, .waitReady, .readData,
      .fastRead, .readDualOut, .readDualIo, .readQuadOut, .readQuadIo, .readDtr, .readDualIoDtr, .readQuadIoDtr,
      .pageProgram, .sectorErase, .block32Erase, .block64Erase, .chipErase, .readJedecId, .readMfrId, .readUniqueId,
      .secRead, .secProgram, .secErase, .enter4b, .exit4b, .enterQpi, .exitQpi, .softReset, .checksumCalc, .checksumRead,
      .pbClear, .pbWrite, .pbRead, .pbProgram, .pbLoad, .read, .write, .erase, .getId, .getStatus].all (fun i =>
        failsHyps i (ready i false false .reads) [] [] 0 errAns) = true ∧
    failsHyps .waitReady (ready .waitReady false false .assisted) [] [] 0 errAns = true := by decide

/-- READ_QUAD_OUT refused at each of its eleven calls: opcode, address, dummy, both `configure`s, data, `select_high`. -/
theorem witness_failure_at_every_call :
    (List.range 11).all (fun m => failsHyps .readQuadOut (ready .readQuadOut false false .reads) [] [] m errAns) = true := by
  decide

/-- WRITE_SR1 with its byte declined twice and a wait of three reads, refused at each of its eighteen calls: also after the
byte has been sent again, and in the second and third status read. -/
theorem witness_failure_in_later_reads :
    (List.range 18).all (fun m => failsHyps .writeSr1 (ready .writeSr1 false false .reads) [2] [2] m errAns) = true ∧
    failsHyps .writeSr1 (ready .writeSr1 false false .reads) [2] [2] 18 errAns = false := by decide

/-- NotAccepted refuses a phase that is no transmitted data phase. -/
theorem witness_failure_by_not_accepted :
    failsHyps .readQuadOut (ready .readQuadOut false false .reads) [] [] 1 { okAns with xfer := .notAccepted } = true ∧
    failsHyps .pageProgram (ready .pageProgram false false .reads) [] [] 5 { okAns with xfer := .notAccepted } = false := by
  decide

/-- A call of each kind refused in a state of its own: `select_low`, a transfer, `configure`, `auto_poll`; the abort path. -/
theorem witness_refused_call :
    [Op.select, .opcode .read false, .rx { lines := .l2, rate := .sdr } 0 1, .deselect, .autoPoll (busySpec Cfg.default .wel)].all
      (fun op =>
        let s : State := { State.reset with run := true, todo := [op, .finish .ok] }
        due op && (match pendingCall s with
          | some k => refuses { call := k, role := .plain, retry := (opPhase s op).any fun x => x.1.actions.rsucc } errAns
          | none => false)) = true ∧
    (let s : State := { State.reset with run := true, todo := [.abort .transportDataFailed { st := .dat, i := 1 }] }
     s.todo = .abort .transportDataFailed { st := .dat, i := 1 } :: [] ∧ pendingCall s = some .selectHigh) := by decide

/-- The hypotheses of `WaitsUntilReady i` with `k` reads that do not show the bit. -/
def waitsHyps (i : Instr) (k : Nat) : Bool :=
  let s0 := ready i false false .reads
  match waitOf i s0 with
  | none => false
  | some spec =>
    let ws := mainOf i s0 ++ pendingReads s0.cfg (s0.sample i) spec k ++ statusWire s0.cfg (s0.sample i) (.polled spec)
    let s := { s0 with xp := answersTo s0 ws ++ [errAns] }
    !s.run && s.cfg.pollImpl == .reads && classes.all (fun c => 0 < s.cfg.budget c) && operandsGood i s &&
      waitOf i s == some spec && decide (k < s.cfg.budget spec.cls) && decide (s.cfg.budget spec.cls < 2 ^ 32) &&
      meets s.cfg (wireCalls s.cfg s.tm ws) (answersTo s0 ws)

/-- The commands with a trailing wait. -/
def waiters : List Instr :=
  [.writeEnable, .writeSr1, .writeSr2, .writeSr3, .waitReady, .pageProgram, .sectorErase, .block32Erase, .block64Erase,
    .chipErase, .secProgram, .secErase, .checksumCalc, .pbProgram, .erase]

/-- No read more than the one that succeeds, and as many as the budget of 3 allows. -/
theorem witness_WaitsReadUntilTheBitShows : waiters.all (fun i => waitsHyps i 0 && waitsHyps i 2) = true := by decide

/-- The hypotheses of `TimesOut i`. -/
def timesOutHyps (i : Instr) : Bool :=
  let s0 := ready i false false .reads
  match waitOf i s0 with
  | none => false
  | some spec =>
    let ws := mainOf i s0 ++ pendingReads s0.cfg (s0.sample i) spec (s0.cfg.budget spec.cls)
    let s := { s0 with xp := answersTo s0 ws ++ [errAns] }
    !s.run && s.cfg.pollImpl == .reads && classes.all (fun c => 0 < s.cfg.budget c) && operandsGood i s &&
      waitOf i s == some spec && decide (s.cfg.budget spec.cls < 2 ^ 32) &&
      meets s.cfg (wireCalls s.cfg s.tm ws) (answersTo s0 ws)

theorem witness_WaitsTimeOutAfterTheBudget : waiters.all timesOutHyps = true := by decide

/-- The hypotheses of `CompletesHowever i`, with an answer for each call and one left over. -/
def howeverHyps (i : Instr) (s0 : State) (ks ms : List Nat) : Bool :=
  let cs := partsCalls s0.cfg (s0.sample i) s0.tm (partsOf i s0) ks ms
  let as := cs.map fun k => answerFor k.role
  let s := { s0 with xp := as ++ [errAns] }
  !s.run && operandsGood i s && withinBudget s.cfg (partsOf i s) ks &&
    partsCalls s.cfg (s.sample i) s.tm (partsOf i s) ks ms == cs && meets s.cfg cs as

/-- WRITE with four waits, ERASE with two, of one to three reads and bytes declined; a trailing wait; an assisted one. -/
theorem witness_completes_however :
    howeverHyps .write (ready .write false false .reads) [2, 0, 1, 2] [1, 2] = true ∧
    howeverHyps .write (ready .write true true .assisted) [] [1, 0] = true ∧
    howeverHyps .erase (ready .erase false false .reads) [1, 2] [] = true ∧
    howeverHyps .pageProgram (ready .pageProgram false false .reads) [2] [3, 0] = true ∧
    howeverHyps .readSr1 (ready .readSr1 false false .reads) [] [] = true := by decide

/-- The hypotheses of `AnyWaitTimesOut i` at the part number `m` of the command. -/
def anyTimesOutHyps (i : Instr) (m : Nat) (ks ms : List Nat) : Bool :=
  let s0 := ready i false false .reads
  match (partsOf i s0)[m]? with
  | some (.wait spec) =>
    let before := (partsOf i s0).take m
    let cs := withRetries ms (wireCalls s0.cfg s0.tm
      (partsWire s0.cfg (s0.sample i) before ks ++ pendingReads s0.cfg (s0.sample i) spec (s0.cfg.budget spec.cls)))
    let as := cs.map fun k => answerFor k.role
    let s : State := { s0 with xp := as ++ [errAns] }
    !s.run && s.cfg.pollImpl == .reads && decide (s.cfg.budget spec.cls < 2 ^ 32) && operandsGood i s &&
      partsOf i s == before ++ .wait spec :: (partsOf i s0).drop (m + 1) && withinBudget s.cfg before ks && meets s.cfg cs as
  | _ => false

/-- Each of WRITE's four waits for two chunks, each of ERASE's two, the trailing wait of the others. -/
theorem witness_any_wait_times_out :
    [1, 3, 5, 7].all (fun m => anyTimesOutHyps .write m [0, 2, 1] [0, 1]) = true ∧
    [1, 3].all (fun m => anyTimesOutHyps .erase m [2] []) = true ∧ anyTimesOutHyps .pageProgram 1 [] [1] = true ∧
    anyTimesOutHyps .write 8 [] [] = false := by decide

/-- The hypotheses of `AnyAssistedWaitTimesOut i` at the part number `m`. -/
def anyAssistedHyps (i : Instr) (m : Nat) : Bool :=
  let s0 := ready i true false .assisted
  match (partsOf i s0)[m]? with
  | some (.wait spec) =>
    let before := (partsOf i s0).take m
    let cs := partsCalls s0.cfg (s0.sample i) s0.tm before [] [1]
    let as := cs.map fun k => answerFor k.role
    let bad : Answer := { errAns with poll := .timedOut 0x03#8 }
    let s := { s0 with xp := as ++ bad :: [errAns] }
    !s.run && s.cfg.pollImpl == .assisted && operandsGood i s &&
      partsOf i s == before ++ .wait spec :: (partsOf i s0).drop (m + 1) && bad.poll == .timedOut 0x03#8 && meets s.cfg cs as
  | _ => false

theorem witness_any_assisted_wait_times_out :
    [1, 3, 5, 7].all (anyAssistedHyps .write) = true ∧ [1, 3].all (anyAssistedHyps .erase) = true ∧
    waiters.all (fun i => anyAssistedHyps i 1) = true := by decide

theorem witness_EnterQpiNeedsQuadEnable :
    let s0 := ready .enterQpi false false .reads
    let ws := status2Wire s0.cfg (s0.sample .enterQpi) .quadOff
    let s := { s0 with xp := answersTo s0 ws ++ [errAns] }
    s.run = false ∧ s.xp = answersTo s0 ws ++ [errAns] ∧
      meets s.cfg (wireCalls s.cfg s.tm ws) (answersTo s0 ws) = true := by decide

/-! ### Encodings and the register image -/

theorem witness_DecodeAndEncodeAgree : decodeCode 0x81#8 = .ok .write := by decide

theorem witness_UndefinedCodesAreRefused :
    State.reset.run = false ∧ (∀ i, encode i ≠ 0xFF#8) ∧ (0x60 ≤ (0x60#8).toNat ∧ (0x6F#8).toNat ≤ 0x6F) :=
  ⟨rfl, fun i => by cases i <;> decide, by decide⟩

/-- A word on one line, for the clause on DIR. -/
theorem witness_PhaseWordsAreLegalByTheChecks :
    (0x0048#16).extractLsb' 0 2 = 0#2 ∧ decodePD 0x0048#16 = decodePD 0x0040#16 := by decide

/-- A legal descriptor; a word on one line with bit 3 set; a word on four lines. -/
theorem witness_PhaseWordRoundTrip :
    (pdDpk .p3).legal = true ∧ (∃ pd, decodePD 0x0048#16 = .ok pd ∧ encodePD pd = 0x0040#16) ∧
    (∃ pd, decodePD 0x004A#16 = .ok pd ∧ encodePD pd = 0x004A#16) :=
  ⟨by decide, ⟨_, rfl, by decide⟩, ⟨_, rfl, by decide⟩⟩

/-- Each of the three flags is changed by some command. -/
theorem witness_FlagsRegisterImage :
    [(Instr.enter4b, Sys2Proof.Flag.a4b), (.enterQpi, .qpiEn), (.dtrEnable, .dtrEn)].all (fun k =>
      let s := answered k.1 (ready k.1 false false .reads)
      (after (exec k.1 s)).flag k.2 != s.flag k.2) = true := by decide

theorem witness_TmodeRegisterImage :
    let s : State := { State.reset with tm := { lines := .l4, rate := .dtr, dir := .fromChip } }
    (pdDpk .p1).lines = s.tm.lines ∧ (pdDpk .p1).rate = s.tm.rate ∧ (pdDpk .p1).dir = s.tm.dir := by decide

/-- An unread byte, and none; offsets beside the image's; the default operand width. -/
theorem witness_RegisterImageReadsAndWrites :
    (let s : State := { State.reset with rx := [0xA1#8, 0xB2#8], rxRead := 1 }
     s.rx[s.rxRead]? = some 0xB2#8 ∧ { s with rxRead := 2 }.rx.length ≤ { s with rxRead := 2 }.rxRead) ∧
    0x14 ≠ 0x28 ∧ 0x18 ≠ 0x2C ∧ Cfg.default.operandBits = 32 ∧ 0x34 ∉ [0x00, 0x04, 0x08, 0x0C, 0x10, 0x14, 0x18, 0x1C, 0x20, 0x24, 0x28, 0x2C, 0x30] ∧
    0x01 ∉ [0x00, 0x04, 0x08, 0x0C, 0x10, 0x28] ∧ 0x30 ∉ [0x00, 0x04, 0x08, 0x0C, 0x10, 0x28] := by decide

theorem witness_CommandRegisterHoldsTheCode :
    (State.reset.run = false ∧ writeCmd 0xFF#8 State.reset = .next (after (writeCmd 0xFF#8 State.reset))) ∧
    holding.run = true := ⟨⟨rfl, rfl⟩, by decide⟩

theorem witness_ResetActForgetsTheCommand :
    let s := { holding with env := [.reset] }
    s.canMove = false ∧ s.env = .reset :: [] ∧ s.run = true := by decide

theorem witness_StepRunsTheDecodedCommand :
    let s := State.reset.withFetchWord 8 0x20
    s.run = false ∧ s.canMove = false ∧ s.env = .write 0x00 0x20#32 :: [] ∧
      decode [(0x20#32).setWidth 8] = .ok (.pageProgram, []) := by decide

theorem witness_EveryStepAnswers : holding.canMove = false ∧ holding.env = [] ∧ holding.run = true := by decide

/-! ### The sequencer -/

/-- A command that ends, and one that waits: both are runs from idle. -/
theorem witness_OperandsAreSampledOnce :
    (ready .readSr1 true true .reads).run = false ∧
    exec .readSr1 (ready .readSr1 true true .reads) = .next (after (exec .readSr1 (ready .readSr1 true true .reads))) :=
  ⟨rfl, rfl⟩

/-- The last index of an address of three bytes and of one of four; both addresses of CHECKSUM_CALC. -/
theorem witness_AddressBytesMostSignificantFirst :
    2 < addrCount Cfg.default false ∧ 3 < addrCount Cfg.default true ∧
    addrPhaseBytes Cfg.default .a4bSized true 0x01020304#32 0 = [0x01#8, 0x02#8, 0x03#8, 0x04#8] ∧
    addrPhaseBytes Cfg.default .a4bSizedTwice false 0x010203#32 0x040506#32 =
      [0x01#8, 0x02#8, 0x03#8, 0x04#8, 0x05#8, 0x06#8] := by decide

/-- Opcodes with and without a four-byte form, given by the configuration and by default. -/
theorem witness_ModeFlagsChangeTheWire :
    let c := { Cfg.default with opc := [(.pp, 0x82#8), (.se, 0x21#8)], opc4 := [(.pp, 0x12#8)] }
    c.opc.lookup .pp = some 0x82#8 ∧ c.opc4.lookup .pp = some 0x12#8 ∧ c.opc.lookup .se = some 0x21#8 ∧
      c.opc4.lookup .se = none ∧ c.opc.lookup .ce = none ∧ defaultOpcodes.lookup .ce = some 0xC7#8 ∧
      c.opc4.lookup .ce = none := by decide

/-- SEQ at a data phase whose mode is not latched, at a preset, and at a MODE_OFF action that needs a call. -/
theorem witness_EnsureModeConfiguresOnlyOnChange :
    (let s : State := { State.reset with todo := [.rx { lines := .l4, rate := .sdr } 0 2, .deselect] }
     (opPhase s (.rx { lines := .l4, rate := .sdr } 0 2)).isSome = true ∧
       due (.rx { lines := .l4, rate := .sdr } 0 2) = true ∧ okAns.call = .ok ∧ errAns.call = .error ∧
       pendingCall s = some (conf .l4 .sdr .fromChip)) ∧
    (let s : State := { State.reset with todo := [.preset { st := .dmy, i := 0 } [narrowMode, narrowMode]] }
     s.todo = .preset { st := .dmy, i := 0 } (narrowMode :: [narrowMode]) :: []) ∧
    (let s : State := { State.reset with tm := { lines := .l2, rate := .sdr, dir := .toChip } }
     s.tm ≠ narrowMode ∧ State.reset.tm = narrowMode) := by decide

theorem witness_CaptureFillsRxAndChecksum :
    (pdRx w1S false true).actions.capture = true ∧ (pdTx w1S false true).actions.capture = false := by decide

/-- HOST's byte and ARG; the last index and one before it. -/
theorem witness_RefusedDataByteIsSentAgain :
    (let s : State := { State.reset with todo := [.tx w1S 0 2 .fifo], txFifo := [0x55#8] }
     s.todo = .tx w1S 0 2 .fifo :: [] ∧ 0 + 1 < 2 ∧ txByte s .fifo = some 0x55#8 ∧
       s.tm = (pdTx w1S s.smp.qpi (0 + 1 == 2)).want ∧ okAns.xfer = .done 0x77#8) ∧
    (let s : State := { State.reset with todo := [.tx w1S 0 1 .arg] }
     s.todo = .tx w1S 0 1 .arg :: [] ∧ 0 < 1 ∧ txByte s .arg = some 0x00#8 ∧
       s.tm = (pdTx w1S s.smp.qpi (0 + 1 == 1)).want) := by decide

theorem witness_HoldsUntilHostSuppliesTheByte :
    holding.todo.head? = some (.tx w1S 0 2 .fifo) ∧ holding.txFifo = [] := by decide

/-- Three transfers left and one, the mode latched; an accepting answer and a failing one. -/
theorem witness_PresetTransfersAreDiscarded :
    let m : Mode := { lines := .l4, rate := .dtr, dir := .fromChip }
    let s : State := { State.reset with todo := [.preset { st := .dmy, i := 0 } [m, m, m]], tm := m }
    s.todo = .preset { st := .dmy, i := 0 } (m :: m :: [m]) :: [] ∧ s.tm = m.norm ∧
      ({ s with todo := [.preset { st := .dmy, i := 0 } [m], .deselect] } : State).todo =
        .preset { st := .dmy, i := 0 } [m] :: [.deselect] ∧ okAns.xfer = .done 0x77#8 ∧
      errAns.xfer = .error := by decide

/-! ### Invariants -/

/-- A state in the middle of a quad read, TM changed, two bytes captured. -/
def midRead : State :=
  after (step ({ idle [] with
    addr := 0x000100#32, len := 3
    xp := List.replicate 9 okAns }.withFetchWord 8 0x14))

/-- A step in which a `configure` is answered `Ok`, a reset waiting behind it; and one with no reset waiting. -/
theorem witness_TmMirrorsTheLastConfigure :
    (let s := { midRead with xp := [okAns, okAns], env := [.reset] }
     s.canMove = true ∧ s.env.head? = some .reset ∧ (after (step s)).tm = narrowMode ∧ s.tm ≠ narrowMode) ∧
    midRead.env.head? ≠ some .reset := by decide

/-- A read from a TM of its own; a command whose last phase is a wide address phase; an assisted wait in a command. -/
theorem witness_SuccessLeavesTheTransportNarrow :
    [(Instr.readQuadIo, PollImpl.reads), (.pbLoad, .reads), (.sectorErase, .assisted)].all (fun k =>
      let wide : Width := { lines := .l4, rate := .sdr }
      let s0 := ready k.1 false false k.2
      let s := { s0 with
        cfg := { s0.cfg with shapes := [(.pbLoad, { plainShape with addrM := wide }), (.se, { plainShape with addrM := wide })] }
        tm := { lines := .l2, rate := .dtr, dir := .fromChip }, xp := List.replicate 40 okAns }
      let t := after (exec k.1 s)
      !s.run && (s.cfg.pollImpl == .reads || k.1 != .waitReady) && !t.run && t.result == .ok && t.trace != s.trace &&
        !t.qpiEn) = true := by decide

/-- The invariants hold in the middle of a command, which then steps. -/
theorem witness_TransportModeStaysNormal :
    midRead.run = true ∧ (midRead.tm.lines = .l1 → midRead.tm.dir = .toChip) ∧
      step midRead = .next (after (step midRead)) := ⟨by decide, by decide, rfl⟩

theorem witness_RunDoneAndPositionStayCoherent : State.reset.runCoherent ∧ midRead.runCoherent ∧ midRead.run = true :=
  ⟨⟨by decide, by decide⟩, ⟨by decide, by decide⟩, by decide⟩

theorem witness_ChecksumStaysTheSumOfRx : midRead.sumCoherent ∧ midRead.rx.length = 2 :=
  ⟨⟨by decide, by decide, by decide⟩, by decide⟩

/-- ENTER_4B about to commit: its own flag write is still to come, and the step changes the flag. -/
def midEnter4b : State := after (step ({ idle [] with xp := [okAns, okAns] }.withFetchWord 8 0x40))

theorem witness_OnlyItsCommandChangesAFlag :
    midEnter4b.todo = [.deselect, .commit .a4b true, .finish .ok] ∧ midEnter4b.cmd = encode .enter4b ∧
    (after (step { midEnter4b with xp := [okAns] })).flag .a4b ≠ midEnter4b.flag .a4b ∧
    (after (step { midEnter4b with xp := [okAns], env := [.reset] })).flag .a4b ≠ midEnter4b.flag .a4b := by decide

theorem witness_midEnter4b_commitsOwn : midEnter4b.commitsOwn := by
  intro f v h
  rw [witness_OnlyItsCommandChangesAFlag.1] at h
  simp at h
  obtain ⟨rfl, rfl⟩ := h
  decide

theorem witness_CommandsNeverWriteOperands :
    exec .write (ready .write false false .reads) = .next (after (exec .write (ready .write false false .reads))) := rfl

/-- READ_SR1 is no waiting command and ends with LASTSR as it was. -/
theorem witness_OnlyWaitsWriteLastStatus :
    waits .readSr1 = false ∧ (after (exec .readSr1 (answered .readSr1 (idle [])))).lastSr = 0xA9#8 := by decide

theorem witness_AnswersMayComeInPieces : (drive [okAns, okAns] midRead).xp = [] ∧ midRead.run = true := by decide

/-! ### Arithmetic and the reference chip -/

/-- A request over three pages, one within a page, and the empty one. -/
theorem witness_ChunkArithmetic :
    chunks 256 0x1FF 258 = [(0x1FF, 0, 1), (0x200, 1, 256), (0x300, 257, 1)] ∧ 256 * 1 + 0 < 0x1FF + 258 ∧
    0x10 % 256 + 0xF0 ≤ 256 ∧ chunks 256 0x10 0xF0 = [(0x10, 0, 0xF0)] ∧ chunks 256 0x10 0 = [] := by decide

/-- A canonical memory; the byte written, a byte beside it, and both ends of an erased unit. -/
theorem witness_DeviceMemoryLaws :
    let m : List Host.Cell := [(0x0FFF, 0x01#8), (0x1000, 0x02#8), (0x1FFF, 0x03#8), (0x2000, 0x04#8)]
    memWf m = true ∧ memRead (memWrite m 0x1001 0x55#8) 0x1001 = 0x55#8 ∧ memRead (memErase m 0x1000 0x1000) 0x0FFF = 0x01#8 ∧
      memRead (memErase m 0x1000 0x1000) 0x1000 = 0xFF#8 ∧ memRead (memErase m 0x1000 0x1000) 0x1FFF = 0xFF#8 ∧
      memRead (memErase m 0x1000 0x1000) 0x2000 = 0x04#8 := by decide

/-- Two bytes at the end of a page of erased memory. -/
theorem witness_ProgramReadsBackInsideAPage :
    memWf [(0x0FD, 0x11#8), (0x100, 0x22#8)] = true ∧ 0xFE % 256 + [0xAA#8, 0xBB#8].length ≤ 256 ∧
    memRead [(0x0FD, 0x11#8), (0x100, 0x22#8)] 0xFE = 0xFF#8 ∧ memRead [(0x0FD, 0x11#8), (0x100, 0x22#8)] 0xFF = 0xFF#8 := by
  decide

/-- A shape that puts a dummy byte before the data of a page program: the chip takes the data after it (log 22). -/
theorem test_device_skips_dummies_before_data :
    let c := { Cfg.default with shapes := [(.pp, { plainShape with dummy := [.bytes 1 1 .l1 .sdr .toChip] })] }
    let d : Dev :=
      { size := 0x1000000, mem := [], sec := [], sr1 := 0x02#8, sr2 := 0, sr3 := 0, busyReads := 0, a4b := false, qpi := false,
        busyAfter := 1, jedec := [], bracket := none, resetArmed := false, freeIndex := 0 }
    (d.execute c [0x02#8, 0x00#8, 0x01#8, 0x00#8, 0xFF#8, 0x5A#8]).mem = [(0x100, 0x5A#8)] := by decide

/-- 20_memory.md R81: each of the three security registers is programmed, read and erased apart from the others (log 22). -/
theorem test_device_security_registers :
    let d : Dev :=
      { size := 0x1000000, mem := [], sec := [(0x1FF, 0x0F#8), (0x200, 0x01#8)], sr1 := 0x02#8, sr2 := 0, sr3 := 0
        busyReads := 0, a4b := false, qpi := false, busyAfter := 1, jedec := [], bracket := none, resetArmed := false
        freeIndex := 0 }
    (d.execute Cfg.default [0x42#8, 0x00#8, 0x30#8, 0x00#8, 0x33#8]).sec = [(0x1FF, 0x0F#8), (0x200, 0x01#8)] ∧
    (d.execute Cfg.default [0x42#8, 0x00#8, 0x30#8, 0x00#8, 0x33#8, 0x5A#8]).sec =
      [(0x1FF, 0x0F#8), (0x200, 0x01#8), (0x201, 0x5A#8)] ∧
    (d.execute Cfg.default [0x44#8, 0x00#8, 0x20#8, 0x00#8]).sec = [(0x200, 0x01#8)] ∧
    d.dataByte Cfg.default .secRead 0x2000 255 = some 0x0F#8 ∧ d.dataByte Cfg.default .secRead 0x1000 0 = some 0xFF#8 := by
  decide

/-- 20_memory.md R83: a program that runs past the page's end goes on at its start, ANDing. -/
theorem test_program_wraps_in_its_page :
    programBytes [(0x100, 0x0F#8)] 256 0x1FF 0 [0xAA#8, 0x3C#8] = [(0x100, 0x0C#8), (0x1FF, 0xAA#8)] := by decide

theorem witness_DeviceKeepsCanonicalMemory :
    Dev.wf { size := 0x1000000, mem := [(5, 0x00#8)], sec := [(0x105, 0x5A#8)], sr1 := 0x02#8, sr2 := 0, sr3 := 0, busyReads := 0,
             a4b := false, qpi := false, busyAfter := 1, jedec := [], bracket := some [0x20#8, 0, 0, 0], resetArmed := false,
             freeIndex := 0 } = true := by decide

/-! ### The TX FIFO -/

/-- PAGE_PROGRAM refused in its data phases with a byte unused, a refused operand, and a command of another format. -/
theorem witness_TxBelongsToItsCommand :
    (let s := { ready .pageProgram false false .reads with xp := List.replicate 5 okAns ++ [errAns, okAns] }
     s.run = false ∧ Instr.format .pageProgram = .fALD ∧ s.txFifo.length ≤ s.len.toNat ∧
       exec .pageProgram s = .next (after (exec .pageProgram s)) ∧ (after (exec .pageProgram s)).run = false ∧
       (after (exec .pageProgram s)).result = .transportDataFailed ∧ (after (exec .pageProgram s)).txUsed = 0) ∧
    (let s := { ready .pageProgram false false .reads with addr := 0x01000000#32 }
     (after (exec .pageProgram s)).run = false ∧ (after (exec .pageProgram s)).result = .invalidArgument) ∧
    Instr.format .readSr1 ≠ .fALD ∧ exec .readSr1 holding = .next (after (exec .readSr1 holding)) ∧
    holding.smp.fmt = .fALD ∧ State.reset.smp.fmt ≠ .fALD :=
  ⟨⟨rfl, rfl, by decide, rfl, by decide, by decide, by decide⟩, by decide, by decide, rfl, by decide, by decide⟩

end Sys2Proof.Tests
end

section
/-! SUPPORT. The sequencer as single moves: a step without a call (`Silent`), and the answer to a call (`Answered`). What
every move keeps is kept by `settle`, by `drive` and by a command's whole execution. -/

namespace Sys2Proof.Machine

/-! ## Steps without a call -/

/-- What an item that makes no call is replaced by: nothing, when it is used up; the reads of a wait; a chunk of WRITE. -/
inductive Expands (s : State) : Op → List Op → Prop
  | rxDone {m : Width} {i n : Nat} : ¬ i < n → Expands s (.rx m i n) []
  | txDone {m : Width} {i n : Nat} {src : TxSrc} : ¬ i < n → Expands s (.tx m i n src) []
  | presetDone {pos : Pos} : Expands s (.preset pos []) []
  | modeOffDone {pos : Pos} : s.tm = narrowMode → Expands s (.modeOff pos) []
  | pollReads {p : PollSpec} : s.cfg.pollImpl = .reads →
      Expands s (.poll p) (statusReadOps s.cfg s.smp ++ [.pollTest p])
  | pollAssisted {p : PollSpec} : s.cfg.pollImpl = .assisted → Expands s (.poll p) [.autoPoll p]
  | pollSeen {p : PollSpec} : Expands s (.pollTest p) []
  | pollAgain {p : PollSpec} : Expands s (.pollTest p) (statusReadOps s.cfg s.smp ++ [.pollTest p])
  | quadSeen : Expands s .qeTest []
  | loaded : Expands s .loadWrite []
  | chunksDone : Expands s .chunk []
  | nextChunk {size : Nat} : Expands s .chunk (chunkOps s.cfg s.smp s.off size ++ [.advance size, .chunk])
  | advanced {size : Nat} : Expands s (.advance size) []

/-- The results with which an item can end its command: its own, or an error of the transport or of QE. -/
inductive EndsWith : Op → Result → Prop
  | finish {r : Result} : EndsWith (.finish r) r
  | abort {e : Result} {pos : Pos} : EndsWith (.abort e pos) e
  | poll {p : PollSpec} : EndsWith (.poll p) p.err
  | pollTest {p : PollSpec} : EndsWith (.pollTest p) p.err
  | autoPoll {p : PollSpec} : EndsWith (.autoPoll p) p.err
  | failure {op : Op} {e : Result} : e ≠ .ok → EndsWith op e

/-- The items that write LASTSR: the test after a poll read and the assisted poll. -/
def Op.takesStatus (op : Op) : Bool :=
  match op with
  | .pollTest _ => true
  | .autoPoll _ => true
  | _ => false

/-- One step without a call. -/
inductive Silent (s : State) : State → Prop
  | expands {op : Op} {rest ops : List Op} {l : Byte} {n off rem srci : Word} : s.todo = op :: rest → Expands s op ops →
      op.takesStatus = true ∨ l = s.lastSr →
      Silent s { s with lastSr := l, n := n, off := off, rem := rem, srci := srci, todo := ops ++ rest }
  | commits {f : Flag} {v : Bool} {rest : List Op} : s.todo = .commit f v :: rest →
      Silent s (setFlag f v { s with todo := rest })
  | ends {op : Op} {rest : List Op} {r : Result} {l : Byte} {n : Word} : s.todo = op :: rest → EndsWith op r →
      op.takesStatus = true ∨ l = s.lastSr → Silent s (finish r { s with lastSr := l, n := n })

/-- What every step without a call keeps, `settle` keeps. -/
theorem settle_keeps {K : State → Prop} (hK : ∀ s t, Silent s t → K s → K t) (ops : List Op) :
    ∀ s : State, K { s with todo := ops } → K (settle ops s) := by
  have goes {s : State} {op : Op} {rest ops : List Op} {l : Byte} {n off rem srci : Word} (h : K { s with todo := op :: rest })
      (he : Expands { s with todo := op :: rest } op ops) (hl : op.takesStatus = true ∨ l = s.lastSr) :
      K { s with lastSr := l, n := n, off := off, rem := rem, srci := srci, todo := ops ++ rest } :=
    hK _ _ (Silent.expands (s := { s with todo := op :: rest }) rfl he hl) h
  have ends {s : State} {op : Op} {rest : List Op} {r : Result} {l : Byte} {n : Word} (h : K { s with todo := op :: rest })
      (he : EndsWith op r) (hl : op.takesStatus = true ∨ l = s.lastSr) : K (finish r { s with lastSr := l, n := n }) :=
    hK _ _ (Silent.ends (s := { s with todo := op :: rest }) rfl he hl) h
  induction ops with
  | nil => exact fun s h => h
  | cons op rest ih =>
    intro s h
    cases op with
    | select | opcode _ _ | phase _ _ _ | rxi | deselect | abort _ _ | autoPoll _ => exact h
    | rx m i n =>
      simp only [settle]
      split
      · exact h
      · next hi => exact ih s (goes h (.rxDone hi) (.inr rfl))
    | tx m i n src =>
      simp only [settle]
      split
      · exact h
      · next hi => exact ih s (goes h (.txDone hi) (.inr rfl))
    | preset pos modes =>
      cases modes with
      | nil => exact ih s (goes h .presetDone (.inr rfl))
      | cons m ms => exact h
    | modeOff pos =>
      simp only [settle]
      split
      · next ht => exact ih s (goes h (.modeOffDone ht) (.inr rfl))
      · exact h
    | commit f v =>
      have hc := hK _ _ (Silent.commits (s := { s with todo := .commit f v :: rest }) rfl) h
      exact ih _ (by cases f <;> exact hc)
    | poll p =>
      simp only [settle]
      split
      · next hi =>
        rw [pollLoop_eq]
        split
        · exact ends h .poll (.inr rfl)
        · simpa using goes (n := 0) h (.pollReads hi) (.inr rfl)
      · next hi => exact goes h (.pollAssisted hi) (.inr rfl)
    | pollTest p =>
      simp only [settle]
      split
      · exact ih _ (goes h .pollSeen (.inl rfl))
      · rw [pollLoop_eq]
        split
        · exact ends h .pollTest (.inl rfl)
        · simpa using goes h .pollAgain (.inl rfl)
    | qeTest =>
      simp only [settle]
      split
      · exact ih s (goes h .quadSeen (.inr rfl))
      · exact ends h (.failure (by decide)) (.inr rfl)
    | loadWrite => exact ih _ (goes h .loaded (.inr rfl))
    | chunk =>
      simp only [settle]
      split
      · exact ih s (goes h .chunksDone (.inr rfl))
      · simpa using goes h .nextChunk (.inr rfl)
    | advance size => exact ih _ (goes h .advanced (.inr rfl))
    | finish r => exact ends h .finish (.inr rfl)

/-! ## Calls -/

/-- The call of each item that makes one. -/
theorem opCall_cases {s : State} {op : Op} {c : Call} (h : opCall s op = some c) :
    (op = .select ∧ c = .selectLow) ∨ (op = .deselect ∧ c = .selectHigh) ∨
    (∃ e pos, op = .abort e pos ∧ c = .selectHigh) ∨ (∃ pos, op = .modeOff pos ∧ c = .configure narrowMode) ∨
    (∃ p, op = .autoPoll p ∧
      c = .autoPoll (s.cfg.opcode s.smp.a4b .rdsr1) (eff .l1 s.smp.qpi) p.mask p.target (s.cfg.budget p.cls)) ∨
    (∃ pos m ms, op = .preset pos (m :: ms) ∧ c = ensuring s m.norm (.transfer s.cfg.dummyByte true)) ∨
    (∃ pd b, opPhase s op = some (pd, b) ∧ c = ensuring s pd.want (.transfer b pd.actions.wait)) := by
  have phase (h : (opPhase s op).map (fun x => ensuring s x.1.want (.transfer x.2 x.1.actions.wait)) = some c) :
      ∃ pd b, opPhase s op = some (pd, b) ∧ c = ensuring s pd.want (.transfer b pd.actions.wait) := by
    obtain ⟨⟨pd, b⟩, hp, rfl⟩ := Option.map_eq_some_iff.1 h
    exact ⟨pd, b, hp, rfl⟩
  cases op with
  | preset pos modes =>
    cases modes with
    | nil => simp [opCall, opPhase] at h
    | cons m ms => simp_all [opCall]
  | select | deselect | abort _ _ | modeOff _ | autoPoll _ => simp_all [opCall]
  | _ => exact .inr (.inr (.inr (.inr (.inr (.inr (phase h))))))

theorem ensuring_cases (s : State) (want : Mode) (k : Call) :
    (s.tm = want ∧ ensuring s want k = k) ∨ (s.tm ≠ want ∧ ensuring s want k = .configure want) := by
  unfold ensuring
  split
  · next h => exact .inl ⟨h, rfl⟩
  · next h => exact .inr ⟨h, rfl⟩

/-! ## Answers -/

/-- The state with a call and its answer in the trace (00_scope.md R14). -/
def State.logged (s : State) (c : Call) (a : Answer) : State :=
  { s with trace := s.trace ++ [{ call := c, reply := replyTo c a }] }

/-- What the answer to the call of the head item does, before the steps without a call that follow it. -/
inductive Answered (s : State) (c : Call) (a : Answer) : State → Prop
  | passed {op : Op} {rest : List Op} {l : Byte} : s.todo = op :: rest →
      op = .select ∨ op = .deselect ∨ (∃ p, op = .autoPoll p) → op.takesStatus = true ∨ l = s.lastSr →
      (∀ m, c ≠ .configure m) → Answered s c a { s.logged c a with lastSr := l, todo := rest }
  | ended {op : Op} {rest : List Op} {r : Result} {l : Byte} : s.todo = op :: rest → EndsWith op r →
      op.takesStatus = true ∨ l = s.lastSr → (∀ m, c ≠ .configure m) →
      Answered s c a (finish r { s.logged c a with lastSr := l })
  | configured {op : Op} {rest : List Op} {m : Mode} : s.todo = op :: rest → c = .configure m → a.call = .ok →
      Answered s c a { s.logged c a with tm := m }
  | failed {op : Op} {rest : List Op} : s.todo = op :: rest → (∀ m, c = .configure m → a.call = .error) →
      Answered s c a (xferFail op (s.logged c a))
  | clocked {pos : Pos} {m : Mode} {ms : List Mode} {rest : List Op} : s.todo = .preset pos (m :: ms) :: rest →
      (∀ m, c ≠ .configure m) → Answered s c a { s.logged c a with todo := .preset pos ms :: rest }
  | declined : (∀ m, c ≠ .configure m) → Answered s c a (s.logged c a)
  | accepted {op : Op} {rest : List Op} {pd : PD} {b : Byte} : s.todo = op :: rest →
      opPhase s op = some (pd, b) → s.tm = pd.want → (∀ m, c ≠ .configure m) →
      Answered s c a { accept op pd.actions a.xfer (s.logged c a) with
        todo := (if pd.actions.modeOff then [.modeOff (opPos op)] else []) ++ afterAccept op ++ rest }

theorem opPhase_logged (s : State) (c : Call) (a : Answer) (op : Op) : opPhase (s.logged c a) op = opPhase s op := by
  cases op <;> rfl

/-- The answer to a phase's transfer. -/
theorem answerTransfer_cases {op : Op} {s : State} {pd : PD} {b : Byte} (h : opPhase s op = some (pd, b)) (rest : List Op)
    (a : XferAns) :
    answerTransfer op rest a s = xferFail op s ∨ answerTransfer op rest a s = s ∨
    answerTransfer op rest a s = settle ((if pd.actions.modeOff then [.modeOff (opPos op)] else []) ++ afterAccept op ++ rest)
      (accept op pd.actions a s) := by
  unfold answerTransfer
  split
  · cases h
  · rw [h]
    dsimp only
    split <;> simp

theorem settle_abort {s : State} {e : Result} {pos : Pos} (h : s.todo = [.abort e pos]) : settle s.todo s = s := by
  rw [h]
  show { s with todo := [.abort e pos] } = s
  rw [← h]

theorem settle_empty {s : State} (h : s.todo = []) : settle s.todo s = s := by
  rw [h]
  show { s with todo := [] } = s
  rw [← h]

/-- SEQ acts on an answer by one of these moves, and then by steps without a call; only a declined byte leaves what is to do
as it was. -/
def Moves (s : State) (c : Call) (a : Answer) (u : State) : Prop :=
  ∃ t, Answered s c a t ∧ (u = settle t.todo t ∨ (u = t ∧ t.todo = s.todo))

theorem Moves.settles {s u : State} {c : Call} {a : Answer} {ops : List Op} (h : Answered s c a { u with todo := ops }) :
    Moves s c a (settle ops u) := ⟨_, h, .inl (settle_todo ..).symm⟩

theorem Moves.ends {s u : State} {c : Call} {a : Answer} {r : Result} (h : Answered s c a (finish r u)) :
    Moves s c a (finish r u) := ⟨_, h, .inl (settle_empty (finish_todo r u)).symm⟩

theorem Moves.fails {s u : State} {c : Call} {a : Answer} {op : Op} (h : Answered s c a (xferFail op u)) :
    Moves s c a (xferFail op u) := ⟨_, h, .inl (settle_abort (by rw [xferFail_eq])).symm⟩

/-- The answer to chip-select: SEQ goes on, or the command ends. -/
theorem moves_select {s : State} {op : Op} {rest : List Op} {c : Call} (ht : s.todo = op :: rest)
    (hop : (op = .select ∧ c = .selectLow) ∨ (op = .deselect ∧ c = .selectHigh)) (a : Answer) :
    Moves s c a (answerHead op rest c a (s.logged c a)) := by
  have hsel : op = .select ∨ op = .deselect ∨ ∃ p, op = .autoPoll p := by tauto
  have hne : ∀ m, c ≠ .configure m := by rcases hop with ⟨-, rfl⟩ | ⟨-, rfl⟩ <;> simp
  have he : answerHead op rest c a (s.logged c a) = match a.call with
      | .ok => settle rest (s.logged c a)
      | .error => finish .transportCommandFailed (s.logged c a) := by
    rcases hop with ⟨rfl, rfl⟩ | ⟨rfl, rfl⟩ <;> rfl
  rw [he]
  cases a.call with
  | ok => exact .settles (.passed ht hsel (.inr rfl) hne)
  | error => exact .ends (.ended ht (.failure (by decide)) (.inr rfl) hne)

/-- The answer to a `configure`: the mode is latched and the item goes on, or the bracket is abandoned. -/
theorem moves_configure {s : State} {op : Op} {rest : List Op} (ht : s.todo = op :: rest) (m : Mode) (a : Answer) :
    Moves s (.configure m) a (answerHead op rest (.configure m) a (s.logged (.configure m) a)) := by
  cases hk : a.call with
  | ok =>
    simp only [answerHead, hk]
    have h : Answered s (.configure m) a { s.logged (.configure m) a with tm := m } := .configured ht rfl hk
    exact .settles (by simpa [State.logged, ht] using h)
  | error =>
    simp only [answerHead, hk]
    exact .fails (.failed ht fun _ _ => hk)

/-- The answer to an assisted poll. -/
theorem moves_autoPoll {s : State} {p : PollSpec} {rest : List Op} {o : Byte} {l : Lines} {k t : Byte} {b : Nat}
    (ht : s.todo = .autoPoll p :: rest) (a : Answer) :
    Moves s (.autoPoll o l k t b) a
      (answerHead (.autoPoll p) rest (.autoPoll o l k t b) a (s.logged (.autoPoll o l k t b) a)) := by
  simp only [answerHead, raiseError_closed]
  cases a.poll with
  | matched sr => exact .settles (.passed ht (.inr (.inr ⟨p, rfl⟩)) (.inl rfl) (by simp))
  | timedOut sr => exact .ends (.ended ht .autoPoll (.inl rfl) (by simp))
  | error => exact .ends (.ended ht (.failure (by decide)) (.inr rfl) (by simp))

/-- The answer to a transfer of a dummy preset. -/
theorem moves_preset {s : State} {pos : Pos} {m : Mode} {ms : List Mode} {rest : List Op} {t : Byte} {w : Bool}
    (ht : s.todo = .preset pos (m :: ms) :: rest) (a : Answer) :
    Moves s (.transfer t w) a (answerHead (.preset pos (m :: ms)) rest (.transfer t w) a (s.logged (.transfer t w) a)) := by
  simp only [answerHead, answerTransfer]
  split
  · exact .settles (.clocked ht (by simp))
  · exact .fails (.failed ht (by simp))

/-- The answer to a phase's own transfer. -/
theorem moves_transfer {s : State} {op : Op} {pd : PD} {b t : Byte} {w : Bool} {rest : List Op} (ht : s.todo = op :: rest)
    (hp : opPhase s op = some (pd, b)) (htm : s.tm = pd.want) (a : Answer) :
    Moves s (.transfer t w) a (answerHead op rest (.transfer t w) a (s.logged (.transfer t w) a)) := by
  show Moves _ _ _ (answerTransfer op rest a.xfer _)
  rcases answerTransfer_cases ((opPhase_logged s (.transfer t w) a op).trans hp) rest a.xfer with h | h | h <;> rw [h]
  · exact .fails (.failed ht (by simp))
  · exact ⟨_, .declined (by simp), .inr ⟨rfl, rfl⟩⟩
  · exact .settles (.accepted ht hp htm (by simp))

theorem answerCall_moves {s : State} {c : Call} (hc : pendingCall s = some c) (a : Answer) :
    Moves s c a (answerCall c a s) := by
  cases ht : s.todo with
  | nil => simp [pendingCall, ht] at hc
  | cons op rest =>
    have hop : opCall s op = some c := by simpa [pendingCall, ht] using hc
    have ha : answerCall c a s = answerHead op rest c a (s.logged c a) := by simp [answerCall, ht, State.logged]
    rw [ha]
    rcases opCall_cases hop with h | h | ⟨e, pos, rfl, rfl⟩ | ⟨pos, rfl, rfl⟩ | ⟨p, rfl, rfl⟩ | ⟨pos, m, ms, rfl, rfl⟩ |
      ⟨pd, b, hp, rfl⟩
    · exact moves_select ht (.inl h) a
    · exact moves_select ht (.inr h) a
    · exact .ends (.ended ht .abort (.inr rfl) (by simp))
    · exact moves_configure ht _ a
    · exact moves_autoPoll ht a
    · rcases ensuring_cases s m.norm (.transfer s.cfg.dummyByte true) with ⟨-, he⟩ | ⟨-, he⟩ <;> rw [he]
      · exact moves_preset ht a
      · exact moves_configure ht _ a
    · rcases ensuring_cases s pd.want (.transfer b pd.actions.wait) with ⟨htm, he⟩ | ⟨-, he⟩ <;> rw [he]
      · exact moves_transfer ht hp htm a
      · exact moves_configure ht _ a

/-! ## What every move keeps -/

/-- `K` is kept by every move of SEQ, and says nothing of the queues. -/
structure Stable (K : State → Prop) : Prop where
  queues : ∀ s as env, K s → K { s with xp := as, env := env }
  silent : ∀ s t, Silent s t → K s → K t
  answered : ∀ s c a t, pendingCall s = some c → Answered s c a t → K s → K t

/-- What steps without a call keep holds after the answer to a call, when it holds after every move the answer can be. -/
theorem answerCall_keeps {K : State → Prop} (hs : ∀ s t, Silent s t → K s → K t) {s : State} {c : Call}
    (hc : pendingCall s = some c) (a : Answer) (h : ∀ t, Answered s c a t → K t) : K (answerCall c a s) := by
  obtain ⟨t, hans, e | ⟨e, -⟩⟩ := answerCall_moves hc a
  · rw [e]
    exact settle_keeps hs _ _ (h t hans)
  · rw [e]
    exact h t hans

theorem drive_keeps {K : State → Prop} (hK : Stable K) (as : List Answer) (s : State) (h : K s) : K (drive as s) :=
  drive_induct (fun s as => hK.queues s as s.env)
    (fun s c a hc h => answerCall_keeps hK.silent hc a fun t ht => hK.answered s c a t hc ht h) as s h

/-- The state of command `i` just issued in `s`, with its items to do. -/
def State.issued (s : State) (i : Instr) : State :=
  { sampleAndClear i s with todo := opsOf i s.cfg (s.sample i) }

/-- What a command's execution can come to: nothing while one runs; a refusal of the operands; or a run of its items. -/
theorem exec_cases {i : Instr} {s t : State} (h : exec i s = .next t) :
    (s.run = true ∧ t = s) ∨
    (s.run = false ∧ checksHold (checksOf i s.cfg) s.cfg (s.sample i) = false ∧
      t = finish .invalidArgument (sampleAndClear i s)) ∨
    (s.run = false ∧ checksHold (checksOf i s.cfg) s.cfg (s.sample i) = true ∧
      t = drive s.xp (settle (s.issued i).todo (s.issued i))) := by
  rw [exec_eq] at h
  rcases runCommand_cases i (checksOf i s.cfg) (opsOf i) s with ⟨hr, e⟩ | ⟨hr, hk, e⟩ | ⟨hr, hk, e⟩ <;> rw [e] at h <;> cases h
  · exact .inl ⟨hr, rfl⟩
  · exact .inr (.inl ⟨hr, hk, rfl⟩)
  · exact .inr (.inr ⟨hr, hk, (congrArg (drive s.xp) (settle_todo ..)).symm⟩)

/-- What every move keeps holds after a command's execution, when it holds of the command just issued, of its refusal and
of a state in which a command runs already. -/
theorem exec_keeps {K : State → Prop} (hK : Stable K) {i : Instr} {s t : State} (h : exec i s = .next t)
    (hrun : s.run = true → K s) (hrefused : s.run = false → K (finish .invalidArgument (sampleAndClear i s)))
    (hissued : s.run = false → K (s.issued i)) : K t := by
  rcases exec_cases h with ⟨hr, rfl⟩ | ⟨hr, -, rfl⟩ | ⟨hr, -, rfl⟩
  · exact hrun hr
  · exact hrefused hr
  · exact drive_keeps hK _ _ (settle_keeps hK.silent _ _ (hissued hr))

/-! ## Steps -/

/-- What an act of HOST or XP other than a reset can do (10_state.md R37). -/
inductive Acted (s : State) : State → Prop
  | ignored : Acted s s
  | issued {i : Instr} {t : State} : exec i s = .next t → Acted s t
  | rejected {code : Byte} : s.run = false → Acted s (rejectCode code s)
  | wrote {a l a2 : Word} {g : Byte} {f : List Byte} :
      Acted s { s with addr := a, len := l, arg := g, addr2 := a2, txFifo := f }
  | read {r k : Nat} {bo : List Word} : r = s.rxRead ∨ (r = s.rxRead + 1 ∧ s.rxRead < s.rx.length) →
      Acted s { s with rxRead := r, freeCount := k, busOut := bo }
  | answers {as : List Answer} : Acted s { s with xp := as }

theorem writeCmd_acted {code : Byte} {s t : State} (h : writeCmd code s = .next t) : Acted s t := by
  unfold writeCmd at h
  split at h
  · cases h; exact .ignored
  · next hr =>
    split at h
    · exact .issued h
    · cases h; exact .rejected (by simpa using hr)

theorem regWrite_acted {offset : Nat} {v : Word} {s t : State} (h : regWrite offset v s = .next t) : Acted s t := by
  unfold regWrite at h
  split at h
  · exact writeCmd_acted h
  all_goals cases h
  · exact .wrote
  · exact .wrote
  · exact .wrote
  · exact .wrote
  · exact .wrote
  · exact .ignored

theorem regRead_acted (offset : Nat) (s : State) : Acted s (regRead offset s) := by
  unfold regRead regReadEffect
  split
  · exact .read (.inl rfl)
  · split
    · next h => exact .read (.inr ⟨rfl, h⟩)
    · exact .read (.inl rfl)
  · exact .read (.inl rfl)

/-- What a step can be: SEQ runs; a reset; nothing is waiting; or an act of HOST or XP. -/
theorem step_cases {s t : State} (h : step s = .next t) :
    (s.canMove = true ∧ t = drive s.xp s) ∨
    (s.canMove = false ∧ s.env.head? = some .reset ∧ ∃ rest, t = applyReset { s with env := rest }) ∨
    (s.canMove = false ∧ s.env.head? ≠ some .reset ∧ ∃ rest, Acted { s with env := rest } t) := by
  unfold step at h
  split at h
  · next hm => cases h; exact .inl ⟨hm, rfl⟩
  · next hm =>
    have hm : s.canMove = false := by simpa using hm
    split at h
    · next he => cases h; exact .inr (.inr ⟨hm, by simp [he], s.env, .ignored⟩)
    · next act rest he =>
      cases act with
      | reset => cases h; exact .inr (.inl ⟨hm, by simp [he], rest, rfl⟩)
      | write offset v => exact .inr (.inr ⟨hm, by simp [he], rest, regWrite_acted h⟩)
      | read offset => cases h; exact .inr (.inr ⟨hm, by simp [he], rest, regRead_acted ..⟩)
      | answers as => cases h; exact .inr (.inr ⟨hm, by simp [he], rest, .answers⟩)

/-- What every move keeps, and the acts from outside, a step keeps. -/
theorem step_keeps {K : State → Prop} (hK : Stable K) (hreset : ∀ s, K s → K (applyReset s))
    (hact : ∀ s t, Acted s t → K s → K t) {s t : State} (h : step s = .next t) (k : K s) : K t := by
  rcases step_cases h with ⟨-, rfl⟩ | ⟨-, -, rest, rfl⟩ | ⟨-, -, rest, hact'⟩
  · exact drive_keeps hK _ _ k
  · exact hreset _ (hK.queues s s.xp rest k)
  · exact hact _ _ hact' (hK.queues s s.xp rest k)

/-! ## The frame of a move -/

theorem Silent.quiet {s t : State} (h : Silent s t) : Quiet s t := by
  cases h with
  | expands => constructor <;> first | rfl | constructor <;> rfl
  | commits => exact (quiet_todo s _).trans (quiet_setFlag ..)
  | ends => exact (quiet_work s _ _ s.off s.rem s.srci).trans (quiet_finish ..)

theorem accept_cases (op : Op) (acts : Actions) (a : XferAns) (s : State) :
    accept op acts a s = s ∨ (∃ b, accept op acts a s = { s with sr := b }) ∨ (∃ b, accept op acts a s = rxPush b s) ∨
    (∃ m i n, op = .tx m i n .fifo ∧ accept op acts a s = { s with txFifo := s.txFifo.tail, txUsed := s.txUsed + 1 }) := by
  unfold accept
  split
  · exact .inr (.inl ⟨_, rfl⟩)
  · exact .inr (.inr (.inr ⟨_, _, _, rfl, rfl⟩))
  · split
    · exact .inr (.inr (.inl ⟨_, rfl⟩))
    · exact .inl rfl
  · exact .inl rfl

@[simp] theorem accept_run (op : Op) (acts : Actions) (a : XferAns) (s : State) : (accept op acts a s).run = s.run := by
  rcases accept_cases op acts a s with h | ⟨_, h⟩ | ⟨_, h⟩ | ⟨_, _, _, -, h⟩ <;> simp [h]

@[simp] theorem accept_done (op : Op) (acts : Actions) (a : XferAns) (s : State) : (accept op acts a s).done = s.done := by
  rcases accept_cases op acts a s with h | ⟨_, h⟩ | ⟨_, h⟩ | ⟨_, _, _, -, h⟩ <;> simp [h]

@[simp] theorem accept_a4b (op : Op) (acts : Actions) (a : XferAns) (s : State) : (accept op acts a s).a4b = s.a4b := by
  rcases accept_cases op acts a s with h | ⟨_, h⟩ | ⟨_, h⟩ | ⟨_, _, _, -, h⟩ <;> simp [h]

@[simp] theorem accept_qpiEn (op : Op) (acts : Actions) (a : XferAns) (s : State) : (accept op acts a s).qpiEn = s.qpiEn := by
  rcases accept_cases op acts a s with h | ⟨_, h⟩ | ⟨_, h⟩ | ⟨_, _, _, -, h⟩ <;> simp [h]

@[simp] theorem accept_dtrEn (op : Op) (acts : Actions) (a : XferAns) (s : State) : (accept op acts a s).dtrEn = s.dtrEn := by
  rcases accept_cases op acts a s with h | ⟨_, h⟩ | ⟨_, h⟩ | ⟨_, _, _, -, h⟩ <;> simp [h]

@[simp] theorem accept_tm (op : Op) (acts : Actions) (a : XferAns) (s : State) : (accept op acts a s).tm = s.tm := by
  rcases accept_cases op acts a s with h | ⟨_, h⟩ | ⟨_, h⟩ | ⟨_, _, _, -, h⟩ <;> simp [h]

@[simp] theorem accept_lastSr (op : Op) (acts : Actions) (a : XferAns) (s : State) : (accept op acts a s).lastSr = s.lastSr := by
  rcases accept_cases op acts a s with h | ⟨_, h⟩ | ⟨_, h⟩ | ⟨_, _, _, -, h⟩ <;> simp [h]

theorem Answered.kept {s t : State} {c : Call} {a : Answer} (h : Answered s c a t) : Kept s t := by
  have log : Kept s (s.logged c a) := kept_trace s _
  cases h with
  | passed | configured | clocked | failed | declined => constructor <;> rfl
  | ended => exact log.trans ((quiet_work _ _ s.n s.off s.rem s.srci).trans (quiet_finish ..)).toKept
  | accepted => exact (log.trans (kept_accept ..)).trans (quiet_todo ..).toKept

theorem pendingCall_todo {s : State} {c : Call} (h : pendingCall s = some c) :
    ∃ op rest, s.todo = op :: rest ∧ opCall s op = some c := by
  cases ht : s.todo with
  | nil => simp [pendingCall, ht] at h
  | cons op rest => exact ⟨op, rest, rfl, by simpa [pendingCall, ht] using h⟩

end Sys2Proof.Machine
end

section
/-! THEOREMS. The Transport Mode (10_state.md R32): it is the mode of the last `configure` answered `Ok` (O45), and so it
stays normalised (O47). -/

namespace Sys2Proof.Machine

/-! ## TM and the trace -/

theorem latchedBy_append (tm : Mode) (es es' : List Event) : latchedBy tm (es ++ es') = latchedBy (latchedBy tm es) es' := by
  simp [latchedBy]

theorem latchedBy_ok (tm m : Mode) {e : Event} (hc : e.call = .configure m) (hr : e.reply = .call .ok) :
    latchedBy tm [e] = m := by
  simp [latchedBy, hc, hr]

theorem latchedBy_other (tm : Mode) {e : Event} (h : ∀ m, e.call = .configure m → e.reply = .call .error) :
    latchedBy tm [e] = tm := by
  simp only [latchedBy, List.foldl_cons, List.foldl_nil]
  split
  · next m hc hr => simp [h m hc] at hr
  · rfl

/-- An answer adds its call to the trace. -/
theorem Answered.trace {s t : State} {c : Call} {a : Answer} (h : Answered s c a t) :
    t.trace = s.trace ++ [{ call := c, reply := replyTo c a }] := by
  cases h <;> simp [State.logged, xferFail_eq]

/-- An answer writes TM only when it is the `Ok` to a `configure`. -/
theorem Answered.tm {s t : State} {c : Call} {a : Answer} (h : Answered s c a t) :
    t.tm = latchedBy s.tm [{ call := c, reply := replyTo c a }] := by
  have other (hn : ∀ m, c ≠ .configure m) : s.tm = latchedBy s.tm [{ call := c, reply := replyTo c a }] :=
    (latchedBy_other s.tm fun m hm => absurd hm (hn m)).symm
  cases h with
  | passed _ _ _ hn => exact other hn
  | ended _ _ _ hn => simpa [State.logged] using other hn
  | configured _ hc hok => subst hc; exact (latchedBy_ok s.tm _ rfl (by simp [replyTo, hok])).symm
  | failed _ hn =>
    exact (latchedBy_other s.tm fun m hm => by subst hm; simp [replyTo, hn m rfl]).symm
  | clocked _ hn => exact other hn
  | declined hn => exact other hn
  | accepted _ _ _ hn => exact (accept_tm ..).trans (other hn)

/-- `t` comes after `s` with the trace extended and TM the mode of the last `configure` answered `Ok` since. -/
def Latches (s t : State) : Prop := ∃ es, t.trace = s.trace ++ es ∧ t.tm = latchedBy s.tm es

theorem Latches.of_eq {s t : State} (htr : t.trace = s.trace) (htm : t.tm = s.tm) : Latches s t := ⟨[], by simp [htr], htm⟩

theorem Latches.trans {s t u : State} (h : Latches s t) (k : Latches t u) : Latches s u := by
  obtain ⟨es, htr, htm⟩ := h
  obtain ⟨es', ktr, ktm⟩ := k
  exact ⟨es ++ es', by rw [ktr, htr, List.append_assoc], by rw [ktm, htm, latchedBy_append]⟩

theorem Silent.latches {s t : State} (h : Silent s t) : Latches s t := .of_eq h.quiet.trace h.quiet.tm

theorem Answered.latches {s t : State} {c : Call} {a : Answer} (h : Answered s c a t) : Latches s t :=
  ⟨_, h.trace, h.tm⟩

theorem stable_latches (s : State) : Stable (Latches s) where
  queues _ _ _ h := h
  silent _ _ h k := k.trans h.latches
  answered _ _ _ _ _ h k := k.trans h.latches

theorem exec_latches {i : Instr} {s t : State} (h : exec i s = .next t) : Latches s t :=
  exec_keeps (stable_latches s) h (fun _ => .of_eq rfl rfl) (fun _ => .of_eq (by simp) (by simp)) (fun _ => .of_eq rfl rfl)

theorem Acted.latches {s t : State} (h : Acted s t) : Latches s t := by
  cases h with
  | issued h => exact exec_latches h
  | ignored | rejected | wrote | read | answers => exact .of_eq rfl rfl

/-- Settles O45: each answer extends the trace by its call and latches what it configures; nothing else writes TM. -/
theorem tmMirrorsTheLastConfigure : Obligations.TmMirrorsTheLastConfigure := by
  intro s t hreset h
  have key : Latches s t := by
    rcases step_cases h with ⟨-, rfl⟩ | ⟨hm, he, -⟩ | ⟨-, -, rest, hact⟩
    · exact drive_keeps (stable_latches s) _ _ (.of_eq rfl rfl)
    · simp [hm, he] at hreset
    · exact Latches.trans (.of_eq rfl rfl) hact.latches
  obtain ⟨es, htr, htm⟩ := key
  exact ⟨⟨es, htr.symm⟩, by rw [htm, htr, List.drop_left]⟩

/-! ## TM stays normalised -/

/-- A mode without a direction on one line (40_phase_encoder.md R126). -/
def Mode.isNormal (m : Mode) : Prop := m.lines = .l1 → m.dir = .toChip

theorem norm_isNormal (m : Mode) : Mode.isNormal m.norm := by
  unfold Mode.isNormal Mode.norm
  split <;> simp_all

/-- SEQ asks only for normalised modes. -/
theorem configure_isNormal {s : State} {op : Op} {m : Mode} (h : opCall s op = some (.configure m)) : Mode.isNormal m := by
  have ensured {want : Mode} {b : Byte} {w : Bool} (e : Call.configure m = ensuring s want (.transfer b w)) : m = want := by
    rcases ensuring_cases s want (.transfer b w) with ⟨-, h⟩ | ⟨-, h⟩ <;> simp_all
  rcases opCall_cases h with ⟨-, e⟩ | ⟨-, e⟩ | ⟨_, _, -, e⟩ | ⟨_, -, e⟩ | ⟨_, -, e⟩ | ⟨_, m', _, -, e⟩ | ⟨pd, b, -, e⟩
  · cases e
  · cases e
  · cases e
  · cases e; exact fun _ => rfl
  · cases e
  · exact ensured e ▸ norm_isNormal m'
  · exact ensured e ▸ norm_isNormal _

theorem tmNormal_congr {s t : State} (h : t.tm = s.tm) (k : s.tmNormal) : t.tmNormal := by
  unfold State.tmNormal; rwa [h]

theorem Silent.tmNormal {s t : State} (h : Silent s t) : s.tmNormal → t.tmNormal := tmNormal_congr h.quiet.tm

theorem Answered.tmNormal {s t : State} {c : Call} {a : Answer} (hc : pendingCall s = some c) (h : Answered s c a t)
    (k : s.tmNormal) : t.tmNormal := by
  obtain ⟨op, rest, -, hop⟩ := pendingCall_todo hc
  cases h with
  | configured _ hm _ => subst hm; exact configure_isNormal hop
  | passed | clocked | declined => exact k
  | ended => exact tmNormal_congr (s := s) (by simp [State.logged]) k
  | failed => exact k
  | accepted => exact tmNormal_congr (s := s) (accept_tm ..) k

theorem stable_tmNormal : Stable State.tmNormal where
  queues _ _ _ h := h
  silent _ _ h := h.tmNormal
  answered _ _ _ _ hc h := h.tmNormal hc

theorem Acted.tmNormal {s t : State} (h : Acted s t) (k : s.tmNormal) : t.tmNormal := by
  cases h with
  | issued h => exact exec_keeps stable_tmNormal h (fun _ => k) (fun _ => tmNormal_congr (s := s) (by simp) k) (fun _ => k)
  | ignored | rejected | wrote | read | answers => exact k

/-- Settles O47: SEQ asks only for normalised modes, and nothing else writes TM but a reset. -/
theorem transportModeStaysNormal : Obligations.TransportModeStaysNormal :=
  fun _ _ k h => step_keeps stable_tmNormal (fun _ _ _ => rfl) (fun _ _ hact => hact.tmNormal) h k

end Sys2Proof.Machine
end

section
/-! SUPPORT. The items of a command: which ones a command's list can hold, and which ones an item can leave behind. What
holds of every item and of all an item can leave behind stays true of every item still to do. -/

namespace Sys2Proof.Machine

/-! ## Which items a list can hold -/

/-- The items of a bracket apart from transmitted data; its phases stand outside IDLE (10_state.md R28). -/
def inBracket (op : Op) : Bool :=
  match op with
  | .select | .deselect | .opcode _ _ | .rx _ _ _ | .rxi => true
  | .phase pos _ _ | .preset pos _ | .modeOff pos => pos.st != .idle
  | _ => false

theorem mem_markLast {off : PD → Bool} {xs : List PhaseAt} {x : PhaseAt} (h : x ∈ markLast off xs) :
    ∃ y ∈ xs, x.pos = y.pos := by
  induction xs with
  | nil => simp [markLast] at h
  | cons y ys ih =>
    cases ys with
    | nil =>
      simp only [markLast, List.mem_singleton] at h
      exact ⟨y, by simp, by subst h; split <;> rfl⟩
    | cons z zs =>
      rcases List.mem_cons.1 h with rfl | h
      · exact ⟨x, by simp, rfl⟩
      · obtain ⟨w, hw, e⟩ := ih h
        exact ⟨w, List.mem_cons_of_mem _ hw, e⟩

theorem mem_headPhases_pos {c : Cfg} {p : Sampled} {d : CmdDesc} {addr addr2 : Word} {len : Nat} {x : PhaseAt}
    (h : x ∈ headPhases c p d addr addr2 len) : x.pos.st ≠ .idle := by
  have key : ∀ y ∈ addrPhases c p d addr addr2 ++
      ((d.shapeIn c).dummy.zipIdx.map fun (item, i) => dummyPhases c p i item).flatten, y.pos.st ≠ .idle := by
    intro y hy
    rcases List.mem_append.1 hy with hy | hy
    · simp only [addrPhases, List.mem_map] at hy
      obtain ⟨_, -, rfl⟩ := hy
      simp
    · simp only [List.mem_flatten, List.mem_map] at hy
      obtain ⟨l, ⟨⟨item, i⟩, -, rfl⟩, hy⟩ := hy
      cases item with
      | bytes =>
        obtain ⟨-, rfl⟩ := List.mem_replicate.1 hy
        simp
      | preset =>
        obtain rfl := List.mem_singleton.1 hy
        simp
  unfold headPhases at h
  dsimp only at h
  split at h
  · obtain ⟨y, hy, e⟩ := mem_markLast h
    exact e ▸ key y hy
  · exact key x h

theorem mem_phaseOps {c : Cfg} {pos : Pos} {pd : PD} {tx : Byte} {op : Op} (hpos : pos.st ≠ .idle)
    (h : op ∈ phaseOps c pos pd tx) : inBracket op = true := by
  unfold phaseOps at h
  split at h
  · obtain rfl := List.mem_singleton.1 h
    simpa [inBracket] using hpos
  · rcases List.mem_cons.1 h with rfl | h
    · simpa [inBracket] using hpos
    · split at h
      · obtain rfl := List.mem_singleton.1 h
        simpa [inBracket] using hpos
      · cases h

theorem mem_bracketOps {c : Cfg} {p : Sampled} {d : CmdDesc} {addr addr2 : Word} {len : Nat} {op : Op}
    (h : op ∈ bracketOps c p d addr addr2 len) :
    inBracket op = true ∨ ∃ k m n, d.data = .tx k ∧ op = .tx m 0 n k.src := by
  simp only [bracketOps, List.mem_append, List.mem_singleton, List.mem_flatMap] at h
  rcases h with (((rfl | rfl) | ⟨x, hx, h⟩) | h) | rfl
  · exact .inl rfl
  · exact .inl rfl
  · exact .inl (mem_phaseOps (mem_headPhases_pos hx) h)
  · cases hd : d.data with
    | noData => simp [dataOps, hd] at h
    | rx k =>
      rw [hd] at h
      obtain rfl := List.mem_singleton.1 h
      exact .inl rfl
    | rxi =>
      rw [hd] at h
      obtain rfl := List.mem_singleton.1 h
      exact .inl rfl
    | tx k =>
      rw [hd] at h
      obtain rfl := List.mem_singleton.1 h
      exact .inr ⟨k, _, _, rfl, rfl⟩
  · exact .inl rfl

theorem mem_statusReadOps {c : Cfg} {p : Sampled} {op : Op} (h : op ∈ statusReadOps c p) : inBracket op = true := by
  rcases mem_bracketOps h with h | ⟨k, _, _, hd, -⟩
  · exact h
  · cases hd

theorem mem_tailOps {c : Cfg} {d : CmdDesc} {op : Op} (h : op ∈ tailOps c d) :
    (∃ f v, d.commit = some (f, v) ∧ op = .commit f v) ∨ (d.post ≠ .noPoll ∧ ∃ sp, sp.err ≠ .ok ∧ op = .poll sp) := by
  rcases List.mem_append.1 h with h | h
  · split at h
    · next f v hc => exact .inl ⟨f, v, hc, List.mem_singleton.1 h⟩
    · cases h
  · split at h
    · cases h
    · next k hp => exact .inr ⟨by simp [hp], busyWait c k, nofun, List.mem_singleton.1 h⟩
    · next hp => exact .inr ⟨by simp [hp], welWait c, nofun, List.mem_singleton.1 h⟩

theorem mem_chunkOps {c : Cfg} {p : Sampled} {off : Word} {size : Nat} {op : Op} (h : op ∈ chunkOps c p off size) :
    inBracket op = true ∨ (∃ m n, op = .tx m 0 n .fifo) ∨ ∃ sp, sp.err ≠ .ok ∧ op = .poll sp := by
  simp only [chunkOps, subOps, List.mem_append] at h
  rcases h with (h | h) | (h | h)
  · rcases mem_bracketOps h with h | ⟨k, _, _, hd, -⟩
    · exact .inl h
    · cases hd
  · rcases mem_tailOps h with ⟨f, v, hc, -⟩ | ⟨-, h⟩
    · cases hc
    · exact .inr (.inr h)
  · rcases mem_bracketOps h with h | ⟨k, m, n, hd, rfl⟩
    · exact .inl h
    · cases hd
      exact .inr (.inl ⟨m, n, rfl⟩)
  · rcases mem_tailOps h with ⟨f, v, hc, -⟩ | ⟨-, h⟩
    · cases hc
    · exact .inr (.inr h)

/-! ## Which items a command can hold -/

/-- The items that can stand in what command `i` has to do: a wait only where the command waits (41_sequencer_poller.md
R174), a flag write only its own (46_mode_reset.md R250), bytes of TX only with format ALD (30_encoding.md R91). No wait and
no abort ends a command OK. -/
def permitted (i : Instr) (op : Op) : Prop :=
  match op with
  | .select | .deselect | .opcode _ _ | .rx _ _ _ | .rxi | .qeTest | .loadWrite | .advance _ | .finish _
  | .tx _ _ _ .arg => True
  | .phase pos _ _ | .preset pos _ | .modeOff pos => pos.st ≠ .idle
  | .abort e pos => pos.st ≠ .idle ∧ e ≠ .ok
  | .tx _ _ _ .fifo => i.format = .fALD
  | .chunk => i.format = .fALD ∧ waits i = true
  | .poll p | .pollTest p | .autoPoll p => waits i = true ∧ p.err ≠ .ok
  | .commit f v => i = writesFlag f v

theorem permitted_inBracket {i : Instr} {op : Op} (h : inBracket op = true) : permitted i op := by
  cases op <;> simp_all [inBracket, permitted]

/-- What a descriptor commits, waits for and sends is what command `i` may. -/
def CmdDesc.fits (i : Instr) (d : CmdDesc) : Bool :=
  (match d.commit with
    | some (f, v) => i == writesFlag f v
    | none => true) &&
  (d.post == .noPoll || waits i) &&
  (match d.data with
    | .tx k => k.src == .arg || i.format == .fALD
    | _ => true)

theorem primitiveDesc_fits {i : Instr} {c : Cfg} {d : CmdDesc} (h : primitiveDesc i c = some d) : CmdDesc.fits i d = true := by
  cases i <;> cases h <;> rfl

theorem eraseDescOf_fits (arg : Byte) : CmdDesc.fits .erase (eraseDescOf arg) = true := by
  unfold eraseDescOf
  split
  · rfl
  · split
    · rfl
    · split <;> rfl

theorem mem_subOps_permitted {i : Instr} {c : Cfg} {p : Sampled} {d : CmdDesc} {addr addr2 : Word} {len : Nat} {op : Op}
    (hd : CmdDesc.fits i d = true) (h : op ∈ subOps c p d addr addr2 len) : permitted i op := by
  simp only [CmdDesc.fits, Bool.and_eq_true, Bool.or_eq_true] at hd
  obtain ⟨⟨hcommit, hpost⟩, hdata⟩ := hd
  rcases List.mem_append.1 h with h | h
  · rcases mem_bracketOps h with h | ⟨k, m, n, hk, rfl⟩
    · exact permitted_inBracket h
    · simp only [hk, Bool.or_eq_true, beq_iff_eq] at hdata
      cases hs : k.src with
      | arg => trivial
      | fifo => exact hdata.resolve_left (by simp [hs])
  · rcases mem_tailOps h with ⟨f, v, hc, rfl⟩ | ⟨hp, sp, he, rfl⟩
    · rw [hc] at hcommit
      exact beq_iff_eq.1 hcommit
    · exact ⟨hpost.resolve_left (by simpa using hp), he⟩

theorem mem_bracketOps_permitted {i : Instr} {c : Cfg} {p : Sampled} {d : CmdDesc} {addr addr2 : Word} {len : Nat} {op : Op}
    (hd : CmdDesc.fits i d = true) (h : op ∈ bracketOps c p d addr addr2 len) : permitted i op :=
  mem_subOps_permitted hd (List.mem_append_left _ h)

theorem mem_opsOf_permitted {i : Instr} {c : Cfg} {p : Sampled} {op : Op} (h : op ∈ opsOf i c p) : permitted i op := by
  have ended {d : CmdDesc} {addr addr2 : Word} {len : Nat} (hd : CmdDesc.fits i d = true)
      (h : op ∈ subOps c p d addr addr2 len ++ [.finish .ok]) : permitted i op := by
    rcases List.mem_append.1 h with h | h
    · exact mem_subOps_permitted hd h
    · obtain rfl := List.mem_singleton.1 h
      trivial
  cases hd : primitiveDesc i c with
  | some d =>
    rw [opsOf_primitive p hd] at h
    exact ended (primitiveDesc_fits hd) h
  | none =>
    cases i with
    | waitReady =>
      simp only [opsOf] at h
      split at h
      · rcases List.mem_cons.1 h with rfl | h
        · exact ⟨rfl, nofun⟩
        · obtain rfl := List.mem_singleton.1 h
          trivial
      · obtain rfl := List.mem_singleton.1 h
        trivial
    | enterQpi =>
      rw [opsOf, List.append_assoc, List.append_assoc] at h
      rcases List.mem_append.1 h with h | h
      · exact mem_bracketOps_permitted rfl h
      · rcases List.mem_cons.1 h with rfl | h
        · trivial
        · exact ended rfl h
    | dtrEnable | dtrDisable =>
      rcases List.mem_cons.1 h with rfl | h
      · rfl
      · obtain rfl := List.mem_singleton.1 h
        trivial
    | softReset =>
      rw [opsOf, List.append_assoc] at h
      rcases List.mem_append.1 h with h | h
      · exact mem_subOps_permitted rfl h
      · exact ended rfl h
    | read => exact ended rfl h
    | write =>
      simp only [opsOf, List.mem_cons, List.not_mem_nil, or_false] at h
      rcases h with rfl | rfl | rfl
      · trivial
      · exact ⟨rfl, rfl⟩
      · trivial
    | erase =>
      rw [opsOf, List.append_assoc] at h
      rcases List.mem_append.1 h with h | h
      · exact mem_subOps_permitted rfl h
      · exact ended (eraseDescOf_fits _) h
    | getId => exact ended rfl h
    | getStatus => exact ended rfl h
    | _ => cases hd

/-! ## Which items an item leaves behind -/

/-- `op'` can come to stand in the list of what is to do in place of `op`. -/
inductive Offspring : Op → Op → Prop
  | again {op : Op} : Offspring op op
  | pollRead {p : PollSpec} {op : Op} : inBracket op = true → Offspring (.poll p) op
  | pollTest {p : PollSpec} : Offspring (.poll p) (.pollTest p)
  | autoPoll {p : PollSpec} : Offspring (.poll p) (.autoPoll p)
  | nextRead {p : PollSpec} {op : Op} : inBracket op = true → Offspring (.pollTest p) op
  | chunkItem {op : Op} : inBracket op = true → Offspring .chunk op
  | chunkData {m : Width} {n : Nat} : Offspring .chunk (.tx m 0 n .fifo)
  | chunkWait {p : PollSpec} : p.err ≠ .ok → Offspring .chunk (.poll p)
  | chunkEnd {size : Nat} : Offspring .chunk (.advance size)
  | rx {m : Width} {i j n : Nat} : Offspring (.rx m i n) (.rx m j n)
  | tx {m : Width} {i j n : Nat} {src : TxSrc} : Offspring (.tx m i n src) (.tx m j n src)
  | preset {pos : Pos} {ms ms' : List Mode} : Offspring (.preset pos ms) (.preset pos ms')
  | modeOff {op : Op} : (∀ r, op ≠ .finish r) → Offspring op (.modeOff (opPos op))
  | abort {op : Op} {e : Result} {pos : Pos} : (∀ r, op ≠ .finish r) → pos = opPos op ∨ pos.st = .poll → e ≠ .ok →
      Offspring op (.abort e pos)

theorem Expands.offspring {s : State} {op op' : Op} {ops : List Op} (h : Expands s op ops) (hm : op' ∈ ops) :
    Offspring op op' := by
  cases h with
  | rxDone | txDone | presetDone | modeOffDone | pollSeen | quadSeen | loaded | chunksDone | advanced => cases hm
  | pollReads =>
    rcases List.mem_append.1 hm with hm | hm
    · exact .pollRead (mem_statusReadOps hm)
    · obtain rfl := List.mem_singleton.1 hm
      exact .pollTest
  | pollAssisted =>
    obtain rfl := List.mem_singleton.1 hm
    exact .autoPoll
  | pollAgain =>
    rcases List.mem_append.1 hm with hm | hm
    · exact .nextRead (mem_statusReadOps hm)
    · obtain rfl := List.mem_singleton.1 hm
      exact .again
  | nextChunk =>
    rcases List.mem_append.1 hm with hm | hm
    · rcases mem_chunkOps hm with hm | ⟨_, _, rfl⟩ | ⟨_, he, rfl⟩
      · exact .chunkItem hm
      · exact .chunkData
      · exact .chunkWait he
    · simp only [List.mem_cons, List.not_mem_nil, or_false] at hm
      rcases hm with rfl | rfl
      · exact .chunkEnd
      · exact .again

/-- What a step without a call leaves to do comes from what was to do. -/
theorem Silent.offspring {s t : State} (h : Silent s t) {op' : Op} (hm : op' ∈ t.todo) :
    ∃ op ∈ s.todo, Offspring op op' := by
  cases h with
  | expands ht he _ =>
    rcases List.mem_append.1 hm with hm | hm
    · exact ⟨_, by rw [ht]; exact List.mem_cons_self, he.offspring hm⟩
    · exact ⟨op', by rw [ht]; exact List.mem_cons_of_mem _ hm, .again⟩
  | commits ht =>
    rw [setFlag_todo] at hm
    exact ⟨op', by rw [ht]; exact List.mem_cons_of_mem _ hm, .again⟩
  | ends => simp at hm

theorem mem_afterAccept {op op' : Op} (h : op' ∈ afterAccept op) : Offspring op op' := by
  cases op with
  | rx =>
    obtain rfl := List.mem_singleton.1 h
    exact .rx
  | tx =>
    obtain rfl := List.mem_singleton.1 h
    exact .tx
  | _ => cases h

/-- A call comes from no item that ends the command without one. -/
theorem opCall_ne_finish {s : State} {op : Op} {c : Call} (h : opCall s op = some c) (r : Result) : op ≠ .finish r := by
  rintro rfl
  simp [opCall, opPhase] at h

theorem State.pos_cons {s : State} {op : Op} {rest : List Op} (h : s.todo = op :: rest) :
    s.pos = opPos op ∨ s.pos.st = .poll := by
  unfold State.pos
  rw [h]
  dsimp only
  split
  · exact .inr rfl
  · exact .inl rfl

theorem failKind_ne_ok (st : SeqSt) : failKind st ≠ .ok := by
  cases st <;> decide

/-- What an answer leaves to do comes from what was to do. -/
theorem Answered.offspring {s t : State} {c : Call} {a : Answer} (hc : pendingCall s = some c) (h : Answered s c a t)
    {op' : Op} (hm : op' ∈ t.todo) : ∃ op ∈ s.todo, Offspring op op' := by
  obtain ⟨op₀, rest₀, ht₀, hop⟩ := pendingCall_todo hc
  cases h with
  | passed ht => exact ⟨op', by rw [ht]; exact List.mem_cons_of_mem _ hm, .again⟩
  | ended => simp at hm
  | configured | declined => exact ⟨op', hm, .again⟩
  | failed ht =>
    obtain ⟨rfl, rfl⟩ : _ ∧ _ := by simpa [ht₀] using ht
    rw [xferFail_eq] at hm
    obtain rfl := List.mem_singleton.1 hm
    exact ⟨op₀, by simp [ht₀], .abort (opCall_ne_finish hop) (State.pos_cons (s := s.logged c a) ht) (failKind_ne_ok _)⟩
  | clocked ht =>
    rcases List.mem_cons.1 hm with rfl | hm
    · exact ⟨_, by rw [ht]; exact List.mem_cons_self, .preset⟩
    · exact ⟨op', by rw [ht]; exact List.mem_cons_of_mem _ hm, .again⟩
  | accepted ht =>
    obtain ⟨rfl, rfl⟩ : _ ∧ _ := by simpa [ht₀] using ht
    simp only [List.mem_append] at hm
    rcases hm with (hm | hm) | hm
    · split at hm
      · obtain rfl := List.mem_singleton.1 hm
        exact ⟨op₀, by simp [ht₀], .modeOff (opCall_ne_finish hop)⟩
      · cases hm
    · exact ⟨op₀, by simp [ht₀], mem_afterAccept hm⟩
    · exact ⟨op', by simp [ht₀, hm], .again⟩

/-- What holds of an item holds of all it can leave behind. -/
def Inherited (b : Op → Prop) : Prop := ∀ op op', Offspring op op' → b op → b op'

theorem Silent.todo_all {b : Op → Prop} (hb : Inherited b) {s t : State} (h : Silent s t) (k : ∀ op ∈ s.todo, b op) :
    ∀ op ∈ t.todo, b op := by
  intro op' hm
  obtain ⟨op, ho, hoff⟩ := h.offspring hm
  exact hb op op' hoff (k op ho)

theorem Answered.todo_all {b : Op → Prop} (hb : Inherited b) {s t : State} {c : Call} {a : Answer}
    (hc : pendingCall s = some c) (h : Answered s c a t) (k : ∀ op ∈ s.todo, b op) : ∀ op ∈ t.todo, b op := by
  intro op' hm
  obtain ⟨op, ho, hoff⟩ := h.offspring hc hm
  exact hb op op' hoff (k op ho)

/-! ## Positions outside IDLE -/

theorem placed_inBracket {op : Op} (h : inBracket op = true) : placed op = true := by
  cases op <;> simp_all [inBracket, placed]

/-- An item that does not end the command stands outside IDLE. -/
theorem opPos_ne_idle {op : Op} (h : placed op = true) (hf : ∀ r, op ≠ .finish r) : (opPos op).st ≠ .idle := by
  cases op with
  | finish r => exact absurd rfl (hf r)
  | phase | preset | modeOff | abort => simpa [placed, opPos] using h
  | _ => simp [opPos]

theorem inherited_placed : Inherited fun op => placed op = true := by
  intro op op' h k
  cases h with
  | again => exact k
  | pollRead h | nextRead h | chunkItem h => exact placed_inBracket h
  | pollTest | autoPoll | chunkData | chunkWait | chunkEnd | rx | tx => rfl
  | preset => exact k
  | modeOff hf => simpa [placed] using opPos_ne_idle k hf
  | abort hf hpos he =>
    rcases hpos with rfl | hpos
    · simpa [placed] using opPos_ne_idle k hf
    · simp [placed, hpos]

theorem permitted_placed {i : Instr} {op : Op} (h : permitted i op) : placed op = true := by
  cases op <;> simp_all [permitted, placed]

theorem inherited_permitted (i : Instr) : Inherited (permitted i) := by
  intro op op' h k
  cases h with
  | again => exact k
  | pollRead h | nextRead h | chunkItem h => exact permitted_inBracket h
  | pollTest | autoPoll => exact k
  | chunkData => exact k.1
  | chunkWait he => exact ⟨k.2, he⟩
  | chunkEnd | rx => trivial
  | @tx _ _ _ _ src =>
    cases src with
    | arg => trivial
    | fifo => exact k
  | preset => exact k
  | modeOff hf => exact opPos_ne_idle (permitted_placed k) hf
  | abort hf hpos he =>
    rcases hpos with rfl | hpos
    · exact ⟨opPos_ne_idle (permitted_placed k) hf, he⟩
    · exact ⟨by simp [hpos], he⟩

end Sys2Proof.Machine
end

section
/-! THEOREMS. RUN, DONE and POS stay coherent (O48). -/

namespace Sys2Proof.Machine

/-! ## The end of a command's list -/

theorem endsCommand_append {xs ys : List Op} (h : ys ≠ []) : endsCommand (xs ++ ys) = endsCommand ys := by
  unfold endsCommand
  rw [List.getLast?_append_of_ne_nil _ h]

/-- What follows an item that ends no command ends it. -/
theorem endsCommand_rest {op : Op} {rest : List Op} (h : endsCommand (op :: rest) = true) (hf : ∀ r, op ≠ .finish r)
    (ha : ∀ e pos, op ≠ .abort e pos) : rest ≠ [] ∧ endsCommand rest = true := by
  cases rest with
  | nil =>
    cases op with
    | finish r => exact absurd rfl (hf r)
    | abort e pos => exact absurd rfl (ha e pos)
    | _ => simp [endsCommand] at h
  | cons x xs =>
    have hne : x :: xs ≠ [] := by simp
    exact ⟨hne, by rwa [← List.singleton_append, endsCommand_append hne] at h⟩

theorem endsCommand_replace {op : Op} {rest : List Op} (h : endsCommand (op :: rest) = true) (hf : ∀ r, op ≠ .finish r)
    (ha : ∀ e pos, op ≠ .abort e pos) (ops : List Op) : endsCommand (ops ++ rest) = true := by
  obtain ⟨hne, hr⟩ := endsCommand_rest h hf ha
  rw [endsCommand_append hne, hr]

/-- The coherence of RUN, DONE and what is left to do, with steps without a call perhaps still at its head. -/
def State.running (s : State) : Prop :=
  (s.run = false → s.todo = []) ∧
  (s.run = true → endsCommand s.todo = true ∧ (∀ op ∈ s.todo, placed op = true) ∧ s.done = false)

theorem runCoherent_iff (s : State) : s.runCoherent ↔ s.running ∧ endsNow s.todo = false := by
  unfold State.runCoherent State.running
  rw [List.all_eq_true]
  constructor
  · rintro ⟨h0, h1⟩
    refine ⟨⟨h0, fun hr => ?_⟩, ?_⟩
    · obtain ⟨he, -, hp, hd⟩ := h1 hr
      exact ⟨he, hp, hd⟩
    · cases hr : s.run with
      | false => rw [h0 hr]; rfl
      | true => exact (h1 hr).2.1
  · rintro ⟨⟨h0, h1⟩, hn⟩
    refine ⟨h0, fun hr => ?_⟩
    obtain ⟨he, hp, hd⟩ := h1 hr
    exact ⟨he, hn, hp, hd⟩

theorem running_finish (r : Result) (s : State) : (finish r s).running := by simp [State.running]

/-- A state in which something is left to do. -/
theorem State.running.run {s : State} {op : Op} {rest : List Op} (h : s.running) (ht : s.todo = op :: rest) :
    s.run = true := by
  cases hr : s.run with
  | true => rfl
  | false => simp [h.1 hr] at ht

/-- A move of a running command that is not its end keeps it coherent. -/
theorem State.running.goesOn {s t : State} {op : Op} {rest : List Op} (h : s.running) (ht : s.todo = op :: rest)
    (hrun : t.run = s.run) (hdone : t.done = s.done) (hp : ∀ op ∈ t.todo, placed op = true)
    (he : endsCommand (op :: rest) = true → endsCommand t.todo = true) : t.running := by
  have hr := h.run ht
  obtain ⟨hend, -, hd⟩ := h.2 hr
  refine ⟨fun hf => ?_, fun _ => ⟨he (ht ▸ hend), hp, hdone.trans hd⟩⟩
  rw [hrun, hr] at hf
  cases hf

theorem Expands.no_end {s : State} {op : Op} {ops : List Op} (h : Expands s op ops) :
    (∀ r, op ≠ .finish r) ∧ ∀ e pos, op ≠ .abort e pos := by
  cases h <;> simp

theorem State.running.placed {s : State} (h : s.running) : ∀ op ∈ s.todo, Machine.placed op = true := by
  cases hr : s.run with
  | true => exact (h.2 hr).2.1
  | false => simp [h.1 hr]

theorem Silent.running {s t : State} (h : Silent s t) (k : s.running) : t.running := by
  have hp := h.todo_all inherited_placed k.placed
  cases h with
  | expands ht he _ =>
    obtain ⟨hf, ha⟩ := he.no_end
    exact k.goesOn ht rfl rfl hp fun hend => endsCommand_replace hend hf ha _
  | commits ht =>
    refine k.goesOn ht (by simp) (by simp) hp fun hend => ?_
    rw [setFlag_todo]
    exact (endsCommand_rest hend (by simp) (by simp)).2
  | ends => exact running_finish ..

theorem opPhase_no_end {s : State} {op : Op} {x : PD × Byte} (h : opPhase s op = some x) :
    (∀ r, op ≠ .finish r) ∧ ∀ e pos, op ≠ .abort e pos := by
  cases op <;> simp_all [opPhase]

theorem Answered.running {s t : State} {c : Call} {a : Answer} (hc : pendingCall s = some c) (h : Answered s c a t)
    (k : s.running) : t.running := by
  have hp := h.todo_all inherited_placed hc k.placed
  obtain ⟨op₀, rest₀, ht₀, -⟩ := pendingCall_todo hc
  cases h with
  | passed ht hop =>
    refine k.goesOn ht rfl rfl hp fun hend => (endsCommand_rest hend ?_ ?_).2
    · rcases hop with rfl | rfl | ⟨_, rfl⟩ <;> simp
    · rcases hop with rfl | rfl | ⟨_, rfl⟩ <;> simp
  | ended => exact running_finish ..
  | configured ht => exact k.goesOn ht rfl rfl hp fun hend => ht ▸ hend
  | failed ht => exact k.goesOn ht rfl rfl hp fun _ => rfl
  | clocked ht =>
    exact k.goesOn ht rfl rfl hp fun hend => endsCommand_replace (ops := [_]) hend (by simp) (by simp)
  | declined => exact k.goesOn ht₀ rfl rfl hp fun hend => ht₀ ▸ hend
  | accepted ht hph =>
    obtain ⟨hf, ha⟩ := opPhase_no_end hph
    exact k.goesOn ht (by simp [State.logged]) (by simp [State.logged]) hp fun hend => endsCommand_replace hend hf ha _

theorem stable_running : Stable State.running where
  queues _ _ _ h := h
  silent _ _ h := h.running
  answered _ _ _ _ hc h := h.running hc

/-! ## The head of a list at rest -/

/-- `settle` stops at an item that is due and does not end the command. -/
theorem settle_head (ops : List Op) (s : State) : ∀ op ∈ (settle ops s).todo.head?, due op = true ∧ ∀ r, op ≠ .finish r := by
  have reads (c : Cfg) (p : Sampled) (ops : List Op) : (statusReadOps c p ++ ops).head? = some .select := rfl
  have loop (p : PollSpec) (ops : List Op) (s : State) :
      ∀ op ∈ (pollLoop p ops s).todo.head?, due op = true ∧ ∀ r, op ≠ .finish r := by
    rw [pollLoop_eq]
    split
    · simp
    · simp [reads, due]
  have chunk (c : Cfg) (p : Sampled) (off : Word) (size : Nat) (ops : List Op) :
      (chunkOps c p off size ++ ops).head? = some .select := rfl
  induction ops generalizing s with
  | nil => simp [settle]
  | cons op rest ih =>
    cases op with
    | select | opcode | phase | rxi | deselect | abort | autoPoll => simp [settle, due]
    | rx m i n =>
      simp only [settle]
      split
      · next h => simp [due, h]
      · exact ih s
    | tx m i n src =>
      simp only [settle]
      split
      · next h => simp [due, h]
      · exact ih s
    | preset | modeOff =>
      simp only [settle]
      split
      · exact ih s
      · simp [due]
    | commit | loadWrite | advance => exact ih _
    | poll p =>
      simp only [settle]
      split
      · exact loop _ _ _
      · simp [due]
    | pollTest p =>
      simp only [settle]
      split
      · exact ih _
      · exact loop _ _ _
    | qeTest =>
      simp only [settle, raiseError_closed]
      split
      · exact ih s
      · simp
    | chunk =>
      simp only [settle]
      split
      · exact ih s
      · simp [chunk, due]
    | finish r => simp [settle]

/-- An answer leaves the head of the list as it was, or as `settle` leaves it. -/
theorem answerCall_head {W : Op → Prop} (hW : ∀ op, due op = true → (∀ r, op ≠ .finish r) → W op) {s : State} {c : Call}
    (hc : pendingCall s = some c) (a : Answer) (h : ∀ op ∈ s.todo.head?, W op) :
    ∀ op ∈ (answerCall c a s).todo.head?, W op := by
  obtain ⟨t, -, e | ⟨e, ht⟩⟩ := answerCall_moves hc a
  · intro op ho
    rw [e] at ho
    obtain ⟨hd, hf⟩ := settle_head _ _ op ho
    exact hW op hd hf
  · rwa [e, ht]

theorem endsNow_iff (ops : List Op) : endsNow ops = false ↔ ∀ op ∈ ops.head?, ∀ r, op ≠ .finish r := by
  cases ops with
  | nil => simp [endsNow]
  | cons op rest => cases op <;> simp [endsNow]

theorem endsNow_settle (ops : List Op) (s : State) : endsNow (settle ops s).todo = false :=
  (endsNow_iff _).2 fun op ho => (settle_head ops s op ho).2

theorem drive_runCoherent (as : List Answer) (s : State) (h : s.runCoherent) : (drive as s).runCoherent := by
  refine drive_induct (P := State.runCoherent) (fun _ _ h => h) (fun s c a hc h => ?_) as s h
  obtain ⟨hr, hn⟩ := (runCoherent_iff s).1 h
  refine (runCoherent_iff _).2 ⟨?_, ?_⟩
  · exact answerCall_keeps stable_running.silent hc a fun t ht => ht.running hc hr
  · exact (endsNow_iff _).2 (answerCall_head (fun _ _ hf => hf) hc a ((endsNow_iff _).1 hn))

/-! ## O48 -/

theorem endsCommand_opsOf (i : Instr) (c : Cfg) (p : Sampled) : endsCommand (opsOf i c p) = true := by
  have ended (ops : List Op) : endsCommand (ops ++ [.finish .ok]) = true := by rw [endsCommand_append (by simp)]; rfl
  cases hd : primitiveDesc i c with
  | some d => rw [opsOf_primitive p hd]; exact ended _
  | none =>
    cases i with
    | waitReady =>
      simp only [opsOf]
      split <;> rfl
    | dtrEnable | dtrDisable | write => rfl
    | enterQpi | softReset | read | erase | getId | getStatus => exact ended _
    | _ => cases hd

theorem running_issued (i : Instr) (s : State) : (s.issued i).running :=
  ⟨nofun, fun _ =>
    ⟨endsCommand_opsOf .., fun _ hop => permitted_placed (mem_opsOf_permitted hop), rfl⟩⟩

theorem runCoherent_finish (r : Result) (s : State) : (finish r s).runCoherent := by simp [State.runCoherent]

theorem exec_runCoherent {i : Instr} {s t : State} (h : exec i s = .next t) (k : s.run = true → s.runCoherent) :
    t.runCoherent := by
  rcases exec_cases h with ⟨hr, rfl⟩ | ⟨-, -, rfl⟩ | ⟨-, -, rfl⟩
  · exact k hr
  · exact runCoherent_finish ..
  · exact drive_runCoherent _ _ ((runCoherent_iff _).2
      ⟨settle_keeps stable_running.silent _ _ (running_issued i s), endsNow_settle ..⟩)

theorem Acted.runCoherent {s t : State} (h : Acted s t) (k : s.runCoherent) : t.runCoherent := by
  cases h with
  | issued h => exact exec_runCoherent h fun _ => k
  | rejected => exact ⟨fun _ => rfl, nofun⟩
  | ignored | wrote | read | answers => exact k

/-- With nothing left to do POS is (IDLE, 0) (10_state.md R27). -/
theorem State.pos_nil {s : State} (h : s.todo = []) : s.pos = { st := .idle, i := 0 } := by
  unfold State.pos
  rw [h]

/-- Settles O48: the moves of a running command keep its end, its positions and DONE, and `settle` stops before an end. -/
theorem runDoneAndPositionStayCoherent : Obligations.RunDoneAndPositionStayCoherent := by
  refine ⟨fun s t k h => ?_, fun s k => ⟨⟨fun hp => ?_, fun hr => ?_⟩, fun hr => State.pos_nil (k.1 hr)⟩⟩
  · rcases step_cases h with ⟨-, rfl⟩ | ⟨-, -, rest, rfl⟩ | ⟨-, -, rest, hact⟩
    · exact drive_runCoherent _ _ k
    · exact ⟨fun _ => rfl, nofun⟩
    · exact hact.runCoherent k
  · cases hr : s.run with
    | false => rfl
    | true =>
      obtain ⟨hrun, hn⟩ := (runCoherent_iff s).1 k
      cases ht : s.todo with
      | nil => simpa [ht, endsCommand] using (hrun.2 hr).1
      | cons op rest =>
        have hop : (opPos op).st ≠ .idle :=
          opPos_ne_idle (hrun.placed op (by simp [ht])) ((endsNow_iff _).1 hn op (by simp [ht]))
        rcases State.pos_cons ht with h | h
        · exact absurd (h ▸ hp) hop
        · rw [h] at hp; cases hp
  · rw [State.pos_nil (k.1 hr)]

end Sys2Proof.Machine
end

section
/-! THEOREMS. A mode flag is written only by its own switch (O50, O7). -/

namespace Sys2Proof.Machine

/-! ## The flags -/

theorem flag_setFlag (f g : Flag) (v : Bool) (s : State) : (setFlag f v s).flag g = if g = f then v else s.flag g := by
  cases f <;> cases g <;> rfl

theorem flag_congr {s t : State} (ha : t.a4b = s.a4b) (hq : t.qpiEn = s.qpiEn) (hd : t.dtrEn = s.dtrEn) (f : Flag) :
    t.flag f = s.flag f := by
  cases f
  · exact ha
  · exact hq
  · exact hd

@[simp] theorem flag_finish (r : Result) (s : State) (f : Flag) : (finish r s).flag f = s.flag f :=
  flag_congr (by simp) (by simp) (by simp) f

theorem Answered.flag {s t : State} {c : Call} {a : Answer} (h : Answered s c a t) (f : Flag) : t.flag f = s.flag f := by
  cases h with
  | passed | configured | failed | clocked | declined => exact flag_congr rfl rfl rfl f
  | ended => exact flag_congr (by simp [State.logged]) (by simp [State.logged]) (by simp [State.logged]) f
  | accepted => exact flag_congr (by simp [State.logged]) (by simp [State.logged]) (by simp [State.logged]) f

/-! ## O50 -/

/-- A flag write belongs to the command whose code is `code`. -/
def ownFlag (code : Byte) (op : Op) : Prop := ∀ f v, op = .commit f v → code = encode (writesFlag f v)

theorem commitsOwn_iff (s : State) : s.commitsOwn ↔ ∀ op ∈ s.todo, ownFlag s.cmd op :=
  ⟨fun h _ hm f v e => h f v (e ▸ hm), fun h f v hm => h _ hm f v rfl⟩

/-- No item leaves a flag write behind that it is not itself. -/
theorem inherited_ownFlag (code : Byte) : Inherited (ownFlag code) := by
  intro op op' h k f v e
  cases h with
  | again => exact k f v e
  | pollRead h | nextRead h | chunkItem h => rw [e] at h; cases h
  | _ => cases e

/-- The flag writes to come are the running command's, and a flag that differs from what it was in `s` was set by its
switch. -/
def FlagsOwn (s t : State) : Prop :=
  t.commitsOwn ∧ ∀ f, t.flag f ≠ s.flag f → t.cmd = encode (writesFlag f (t.flag f))

theorem FlagsOwn.of_eq {s t : State} (h : t.commitsOwn) (hf : ∀ f, t.flag f = s.flag f) : FlagsOwn s t :=
  ⟨h, fun f hne => absurd (hf f) hne⟩

/-- A move that writes no flag. -/
theorem FlagsOwn.move {s t u : State} (k : FlagsOwn s t) (h : u.commitsOwn) (hc : u.cmd = t.cmd)
    (hf : ∀ f, u.flag f = t.flag f) : FlagsOwn s u :=
  ⟨h, fun f hne => by rw [hf] at hne ⊢; rw [hc]; exact k.2 f hne⟩

theorem Silent.commitsOwn {s t : State} (h : Silent s t) (k : s.commitsOwn) : t.commitsOwn := by
  rw [commitsOwn_iff, h.quiet.cmd]
  exact h.todo_all (inherited_ownFlag _) ((commitsOwn_iff s).1 k)

theorem Silent.flagsOwn {s t u : State} (h : Silent t u) (k : FlagsOwn s t) : FlagsOwn s u := by
  have hown := h.commitsOwn k.1
  cases h with
  | expands => exact k.move hown rfl fun f => flag_congr rfl rfl rfl f
  | ends => exact k.move hown (by simp) fun f => by rw [flag_finish]; exact flag_congr rfl rfl rfl f
  | @commits f v rest ht =>
    refine ⟨hown, fun g hne => ?_⟩
    rw [setFlag_cmd]
    by_cases hg : g = f
    · subst hg
      rw [flag_setFlag, if_pos rfl]
      exact k.1 g v (by simp [ht])
    · rw [flag_setFlag, if_neg hg] at hne ⊢
      have he : State.flag { t with todo := rest } g = t.flag g := flag_congr rfl rfl rfl g
      rw [he] at hne ⊢
      exact k.2 g hne

theorem stable_flagsOwn (s : State) : Stable (FlagsOwn s) where
  queues _ _ _ h := h.move h.1 rfl fun f => flag_congr rfl rfl rfl f
  silent _ _ h k := h.flagsOwn k
  answered t _ _ u hc h k := by
    refine k.move ?_ h.kept.cmd h.flag
    rw [commitsOwn_iff, h.kept.cmd]
    exact h.todo_all (inherited_ownFlag _) hc ((commitsOwn_iff t).1 k.1)

theorem commitsOwn_of_nil {s : State} (h : s.todo = []) : s.commitsOwn := by
  intro f v hm
  rw [h] at hm
  cases hm

theorem commitsOwn_issued (s : State) (i : Instr) : (s.issued i).commitsOwn := by
  intro f v hm
  have h : i = writesFlag f v := mem_opsOf_permitted hm
  rw [← h]
  rfl

theorem exec_flagsOwn {i : Instr} {s t : State} (h : exec i s = .next t) (k : s.run = true → s.commitsOwn) :
    FlagsOwn s t :=
  exec_keeps (stable_flagsOwn s) h (fun hr => .of_eq (k hr) fun _ => rfl)
    (fun _ => .of_eq (commitsOwn_of_nil (by simp)) fun f => by rw [flag_finish]; exact flag_congr rfl rfl rfl f)
    (fun _ => .of_eq (commitsOwn_issued s i) fun f => flag_congr rfl rfl rfl f)

theorem Acted.flagsOwn {s t : State} (h : Acted s t) (k : s.commitsOwn) : FlagsOwn s t := by
  cases h with
  | issued h => exact exec_flagsOwn h fun _ => k
  | rejected => exact .of_eq (commitsOwn_of_nil rfl) fun f => flag_congr rfl rfl rfl f
  | ignored | wrote | read | answers => exact .of_eq k fun f => flag_congr rfl rfl rfl f

/-- Settles O50: only a commit writes a flag, and every commit to come is the running command's own. -/
theorem onlyItsCommandChangesAFlag : Obligations.OnlyItsCommandChangesAFlag := by
  intro s t k h
  rcases step_cases h with ⟨-, rfl⟩ | ⟨hm, he, rest, rfl⟩ | ⟨-, -, rest, hact⟩
  · obtain ⟨hown, hf⟩ := drive_keeps (stable_flagsOwn s) s.xp s (.of_eq k fun _ => rfl)
    exact ⟨hown, fun f hne => .inl (hf f hne)⟩
  · exact ⟨commitsOwn_of_nil rfl, fun _ _ => .inr ⟨hm, he⟩⟩
  · obtain ⟨hown, hf⟩ := hact.flagsOwn k
    exact ⟨hown, fun f hne => .inl (hf f hne)⟩

/-! ## O7 -/

theorem decode_encode (i : Instr) : decode [encode i] = .ok (i, []) := by
  cases i <;> rfl

/-- A code names one command (30_encoding.md R96). -/
theorem encode_injective {i j : Instr} (h : encode i = encode j) : i = j := by
  have hd := decode_encode i
  rw [h, decode_encode] at hd
  cases hd
  rfl

/-- A command that starts leaves its own code in CMD. -/
theorem exec_cmd {i : Instr} {s t : State} (h : exec i s = .next t) (hr : s.run = false) : t.cmd = encode i := by
  rcases exec_cases h with ⟨hr', -⟩ | ⟨-, -, rfl⟩ | ⟨-, -, rfl⟩
  · simp [hr] at hr'
  · simp
  · rw [drive_cmd, settle_cmd]
    rfl

/-- A command whose execution changes a flag is the switch that sets it so. -/
theorem exec_flag {i : Instr} {s t : State} {f : Flag} (h : exec i s = .next t) (hf : t.flag f ≠ s.flag f) :
    i = writesFlag f (t.flag f) := by
  cases hr : s.run with
  | true =>
    rcases exec_cases h with ⟨-, rfl⟩ | ⟨hr', -⟩ | ⟨hr', -⟩
    · exact absurd rfl hf
    · simp [hr] at hr'
    · simp [hr] at hr'
  | false =>
    have hown := exec_flagsOwn h fun hr' => by simp [hr] at hr'
    exact encode_injective ((exec_cmd h hr).symm.trans (hown.2 f hf))

theorem flagsReg_bits (s : State) : s.flagsReg.getLsbD 0 = s.a4b ∧ s.flagsReg.getLsbD 1 = s.qpiEn ∧
    s.flagsReg.getLsbD 2 = s.dtrEn ∧ s.flagsReg.extractLsb' 3 5 = 0#5 := by
  unfold State.flagsReg
  cases s.a4b <;> cases s.qpiEn <;> cases s.dtrEn <;> decide

/-- Settles O7: FLAGS bit by bit, the write that is ignored, and the flag a command changes. -/
theorem flagsRegisterImage : Obligations.FlagsRegisterImage :=
  ⟨flagsReg_bits, fun _ _ => ⟨rfl, rfl⟩, fun _ _ _ _ h hf => exec_flag h hf⟩

end Sys2Proof.Machine
end

section
/-! THEOREMS. What a command leaves of RX and CKSUM (O49), LASTSR (O53), the TX FIFO (O60) and the operands (O52). -/

namespace Sys2Proof.Machine

/-! ## CKSUM is the sum of RX (O49) -/

theorem checksum_push (bits : Nat) (bs : List Byte) (b : Byte) :
    BitVec.ofNat 32 (((checksum bits bs).toNat + b.toNat) % 2 ^ bits) = checksum bits (bs ++ [b]) := by
  rw [← sumInto_zero, ← sumInto_zero, sumInto_append]
  rfl

theorem sumCoherent_congr {s t : State} (hc : t.cfg = s.cfg) (hk : t.cksum = s.cksum) (hx : t.rx = s.rx)
    (hr : t.rxRead = s.rxRead) (k : s.sumCoherent) : t.sumCoherent := by
  unfold State.sumCoherent
  rwa [hc, hk, hx, hr]

theorem sumCoherent_rxPush {s : State} (b : Byte) (k : s.sumCoherent) : (rxPush b s).sumCoherent := by
  obtain ⟨hb, hk, hr⟩ := k
  refine ⟨hb, ?_, ?_⟩
  · rw [rxPush_cksum, hk]
    exact checksum_push ..
  · rw [rxPush_rx, rxPush_rxRead, List.length_append]
    omega

theorem Silent.sumCoherent {s t : State} (h : Silent s t) : s.sumCoherent → t.sumCoherent :=
  sumCoherent_congr h.quiet.cfg h.quiet.cksum h.quiet.rx h.quiet.rxRead

theorem Answered.sumCoherent {s t : State} {c : Call} {a : Answer} (h : Answered s c a t) (k : s.sumCoherent) :
    t.sumCoherent := by
  have log : (s.logged c a).sumCoherent := k
  cases h with
  | passed | configured | failed | clocked | declined => exact k
  | ended => exact sumCoherent_congr (by simp) (by simp) (by simp) (by simp) log
  | @accepted op _ pd =>
    have hacc : (accept op pd.actions a.xfer (s.logged c a)).sumCoherent := by
      rcases accept_cases op pd.actions a.xfer (s.logged c a) with h | ⟨_, h⟩ | ⟨b, h⟩ | ⟨_, _, _, -, h⟩ <;> rw [h]
      · exact log
      · exact log
      · exact sumCoherent_rxPush b log
      · exact log
    exact hacc

theorem stable_sumCoherent : Stable State.sumCoherent where
  queues _ _ _ h := h
  silent _ _ h := h.sumCoherent
  answered _ _ _ _ _ h := h.sumCoherent

/-- With RX and CKSUM cleared nothing has to be summed. -/
theorem sumCoherent_cleared {s t : State} (hc : t.cfg = s.cfg) (hk : t.cksum = 0) (hx : t.rx = []) (hr : t.rxRead = 0)
    (k : s.sumCoherent) : t.sumCoherent := by
  refine ⟨hc ▸ k.1, ?_, by simp [hr]⟩
  rw [hk, hx]
  simp [checksum]

theorem Acted.sumCoherent {s t : State} (h : Acted s t) (k : s.sumCoherent) : t.sumCoherent := by
  cases h with
  | issued h =>
    exact exec_keeps stable_sumCoherent h (fun _ => k)
      (fun _ => sumCoherent_cleared (s := s) (by simp) (by simp) (by simp) (by simp) k)
      (fun _ => sumCoherent_cleared (s := s) rfl rfl rfl rfl k)
  | rejected => exact sumCoherent_cleared (s := s) rfl rfl rfl rfl k
  | ignored | wrote | answers => exact k
  | read hr =>
    obtain ⟨hb, hk, hle⟩ := k
    refine ⟨hb, hk, ?_⟩
    rcases hr with rfl | ⟨rfl, hlt⟩
    · exact hle
    · exact hlt

/-- Settles O49: RX grows only by `rxPush`, which adds its byte to CKSUM, and is cleared only with CKSUM. -/
theorem checksumStaysTheSumOfRx : Obligations.ChecksumStaysTheSumOfRx :=
  fun _ _ k h =>
    step_keeps stable_sumCoherent (fun s k => sumCoherent_cleared (s := s) rfl rfl rfl rfl k) (fun _ _ h => h.sumCoherent) h k

/-! ## LASTSR (O53) -/

/-- The items to do are those of command `i`, and LASTSR is as in `s`. -/
def KeepsLastSr (i : Instr) (s t : State) : Prop := (∀ op ∈ t.todo, permitted i op) ∧ t.lastSr = s.lastSr

/-- Only an item of a wait takes a status byte. -/
theorem permitted_waits {i : Instr} {op : Op} (h : permitted i op) (ht : op.takesStatus = true) : waits i = true := by
  cases op <;> simp_all [Op.takesStatus, permitted]

theorem lastSr_of_waitless {i : Instr} {s t : State} {op : Op} {rest : List Op} {l : Byte} (hw : waits i = false)
    (k : KeepsLastSr i s t) (ht : t.todo = op :: rest) (hl : op.takesStatus = true ∨ l = t.lastSr) : l = s.lastSr := by
  rcases hl with h | rfl
  · have := permitted_waits (k.1 op (by simp [ht])) h
    simp [hw] at this
  · exact k.2

theorem stable_keepsLastSr {i : Instr} (hw : waits i = false) (s : State) : Stable (KeepsLastSr i s) where
  queues _ _ _ h := h
  silent t u h k := by
    refine ⟨h.todo_all (inherited_permitted i) k.1, ?_⟩
    cases h with
    | expands ht _ hl => exact lastSr_of_waitless hw k ht hl
    | commits => simpa using k.2
    | ends ht _ hl => rw [finish_lastSr]; exact lastSr_of_waitless hw k ht hl
  answered t c a u hc h k := by
    refine ⟨h.todo_all (inherited_permitted i) hc k.1, ?_⟩
    cases h with
    | passed ht _ hl => exact lastSr_of_waitless hw k ht hl
    | ended ht _ hl => rw [finish_lastSr]; exact lastSr_of_waitless hw k ht hl
    | configured | failed | clocked | declined => exact k.2
    | accepted => exact (accept_lastSr ..).trans k.2

/-- Settles O53: only the items of a wait write LASTSR, and the command has none. -/
theorem onlyWaitsWriteLastStatus : Obligations.OnlyWaitsWriteLastStatus := by
  intro i s t hw h
  rcases exec_cases h with ⟨-, rfl⟩ | ⟨-, -, rfl⟩ | ⟨-, -, rfl⟩
  · rfl
  · simp
  · have hK := stable_keepsLastSr hw s
    have hissued : KeepsLastSr i s (s.issued i) := ⟨fun _ => mem_opsOf_permitted, rfl⟩
    exact (drive_keeps hK _ _ (settle_keeps hK.silent _ (s.issued i) hissued)).2

/-! ## The TX FIFO (O60) -/

theorem finish_txFifo (r : Result) (s : State) : (finish r s).txFifo =
    if s.smp.fmt = .fALD then
      if s.txFifo.length ≤ s.smp.len.toNat - s.txUsed then [] else Config.freeFifo s.freeCount
    else s.txFifo := by
  unfold finish dropTx
  dsimp only
  split
  · split <;> rfl
  · rfl

/-- A command of format ALD with no byte beyond LEN in the FIFO, and none at all once it has ended. -/
def TxWithinLen (t : State) : Prop :=
  t.smp.fmt = .fALD ∧ (t.txFifo = [] ∨ t.txFifo.length + t.txUsed ≤ t.smp.len.toNat) ∧ (t.run = false → t.txFifo = [])

theorem TxWithinLen.finish {s : State} (r : Result) (h : TxWithinLen s) : TxWithinLen (finish r s) := by
  obtain ⟨hf, hlen, -⟩ := h
  have hnil : (Machine.finish r s).txFifo = [] := by
    rw [finish_txFifo, if_pos hf, if_pos]
    rcases hlen with h | h
    · simp [h]
    · omega
  exact ⟨by simpa using hf, .inl hnil, fun _ => hnil⟩

theorem txWithinLen_congr {s t : State} (hsmp : t.smp = s.smp) (hf : t.txFifo = s.txFifo) (hu : t.txUsed = s.txUsed)
    (hr : t.run = s.run) (k : TxWithinLen s) : TxWithinLen t := by
  unfold TxWithinLen
  rwa [hsmp, hf, hu, hr]

/-- Handing over the next byte of the FIFO. -/
theorem TxWithinLen.take {s : State} (h : TxWithinLen s) (hne : s.txFifo ≠ []) :
    TxWithinLen { s with txFifo := s.txFifo.tail, txUsed := s.txUsed + 1 } := by
  obtain ⟨hf, hlen, hend⟩ := h
  have hpos : 0 < s.txFifo.length := List.length_pos_iff.2 hne
  refine ⟨hf, .inr ?_, fun hr => by simp [hend hr]⟩
  have hle := hlen.resolve_left hne
  simp only [List.length_tail]
  omega

theorem stable_txWithinLen : Stable TxWithinLen where
  queues _ _ _ h := h
  silent _ _ h k := by
    cases h with
    | expands => exact k
    | commits => exact txWithinLen_congr (by simp) (by simp) (by simp) (by simp) k
    | ends => exact TxWithinLen.finish _ (txWithinLen_congr rfl rfl rfl rfl k)
  answered s c a _ _ h k := by
    have log : TxWithinLen (s.logged c a) := k
    cases h with
    | passed | configured | failed | clocked | declined => exact k
    | ended => exact TxWithinLen.finish _ (txWithinLen_congr rfl rfl rfl rfl log)
    | @accepted op _ pd _ _ hp =>
      have hacc : TxWithinLen (accept op pd.actions a.xfer (s.logged c a)) := by
        rcases accept_cases op pd.actions a.xfer (s.logged c a) with h | ⟨_, h⟩ | ⟨b, h⟩ | ⟨m, i, n, rfl, h⟩ <;> rw [h]
        · exact log
        · exact log
        · exact txWithinLen_congr rfl rfl rfl rfl log
        · refine log.take ?_
          rintro hnil
          have : s.txFifo = [] := hnil
          simp [opPhase, txByte, this] at hp
      exact hacc

/-- The items of command `i` are to do, which is not of format ALD, and the FIFO is as in `s`. -/
def KeepsTx (i : Instr) (s t : State) : Prop :=
  t.smp.fmt = i.format ∧ (∀ op ∈ t.todo, permitted i op) ∧ t.txFifo = s.txFifo

theorem finish_txFifo_of_ne {r : Result} {s : State} (h : s.smp.fmt ≠ .fALD) : (finish r s).txFifo = s.txFifo := by
  rw [finish_txFifo, if_neg h]

theorem stable_keepsTx {i : Instr} (hi : i.format ≠ .fALD) (s : State) : Stable (KeepsTx i s) where
  queues _ _ _ h := h
  silent t u h k := by
    obtain ⟨hf, hall, htx⟩ := k
    refine ⟨h.quiet.smp ▸ hf, h.todo_all (inherited_permitted i) hall, ?_⟩
    cases h with
    | expands => exact htx
    | commits => simpa using htx
    | ends => exact (finish_txFifo_of_ne (by rw [← hf] at hi; exact hi)).trans htx
  answered t c a u hc h k := by
    obtain ⟨hf, hall, htx⟩ := k
    refine ⟨h.kept.smp ▸ hf, h.todo_all (inherited_permitted i) hc hall, ?_⟩
    cases h with
    | passed | configured | failed | clocked | declined => exact htx
    | ended => exact (finish_txFifo_of_ne (by rw [← hf] at hi; exact hi)).trans htx
    | @accepted op _ pd _ ht =>
      have hacc : (accept op pd.actions a.xfer (t.logged c a)).txFifo = t.txFifo := by
        rcases accept_cases op pd.actions a.xfer (t.logged c a) with h | ⟨_, h⟩ | ⟨b, h⟩ | ⟨m, j, n, rfl, h⟩
        · rw [h]; rfl
        · rw [h]; rfl
        · rw [h]; rfl
        · exact absurd (show i.format = .fALD from hall (.tx m j n .fifo) (by simp [ht])) hi
      exact hacc.trans htx

/-- Settles O60: with at most LEN bytes pushed what a command leaves unused is dropped at its end; a command of another
format has no item that takes a byte of TX. -/
theorem txBelongsToItsCommand : Obligations.TxBelongsToItsCommand := by
  refine ⟨fun i s t hr hi hlen h ht => ?_, fun i s t hr hi h => ?_, fun r s => ⟨fun hf => ?_, fun hf => ?_⟩⟩
  · have hsampled : TxWithinLen (sampleAndClear i s) := ⟨hi, .inr hlen, nofun⟩
    have key : TxWithinLen t :=
      exec_keeps stable_txWithinLen h (fun hr' => by simp [hr] at hr') (fun _ => hsampled.finish _) (fun _ => hsampled)
    exact key.2.2 ht
  · have key : KeepsTx i s t :=
      exec_keeps (stable_keepsTx hi s) h (fun hr' => by simp [hr] at hr')
        (fun _ => ⟨by simp, by simp, finish_txFifo_of_ne hi⟩) (fun _ => ⟨rfl, fun _ => mem_opsOf_permitted, rfl⟩)
    exact key.2.2
  · exact finish_txFifo_of_ne hf
  · rw [finish_txFifo, if_pos hf]

/-! ## The operands (O52) -/

/-- The answers a run leaves are the last of those it was given. -/
theorem drive_xp_suffix (as : List Answer) (s : State) : (drive as s).xp <:+ as := by
  induction as generalizing s with
  | nil => exact List.suffix_refl []
  | cons a as ih =>
    cases hp : pendingCall s with
    | none => rw [drive_stuck hp]
    | some c => rw [drive_call hp]; exact (ih _).trans (List.suffix_cons a as)

/-- Settles O52: issuing, running and ending a command each leave the operands, HOST's side and the parameters alone. -/
theorem commandsNeverWriteOperands : Obligations.CommandsNeverWriteOperands := by
  intro i s t h
  obtain ⟨es, htr, -⟩ := exec_latches h
  have hpre : s.trace <+: t.trace := ⟨es, htr.symm⟩
  rcases exec_cases h with ⟨-, rfl⟩ | ⟨-, -, rfl⟩ | ⟨-, -, rfl⟩
  · exact ⟨rfl, rfl, rfl, rfl, rfl, rfl, rfl, hpre, List.suffix_refl _⟩
  · exact ⟨by simp, by simp, by simp, by simp, by simp, by simp, by simp, hpre, by simp⟩
  · refine ⟨?_, ?_, ?_, ?_, ?_, ?_, ?_, hpre, drive_xp_suffix ..⟩ <;> simp [State.issued]

end Sys2Proof.Machine
end

section
/-! THEOREMS. The register image (O6, O8, O9), the command register (O10, O13), the transmitted byte (O22) and the reset state
(O51). -/

namespace Sys2Proof.Machine

/-! ## STATUS and TMODE (O6, O8) -/

theorem statusReg_bits (s : State) : s.statusReg.getLsbD 0 = s.run ∧ s.statusReg.getLsbD 1 = s.done ∧
    s.statusReg.extractLsb' 2 2 = 0#2 ∧ s.statusReg.extractLsb' 4 4 = s.result.code := by
  unfold State.statusReg
  cases s.result <;> cases s.run <;> cases s.done <;> decide

/-- Settles O6: STATUS bit by bit, and the write that is ignored. -/
theorem statusRegisterImage : Obligations.StatusRegisterImage := by
  refine ⟨fun s => ?_, fun _ _ => ⟨rfl, rfl⟩⟩
  obtain ⟨hrun, hdone, hzero, hcode⟩ := statusReg_bits s
  refine ⟨hrun, hdone, hzero, hcode.trans ?_⟩
  cases s.result <;> rfl

theorem extractLsb'_low {w : Nat} (x : BitVec w) (d r : BitVec 1) (l : BitVec 2) :
    (x ++ d ++ r ++ l).extractLsb' 0 4 = d ++ r ++ l := by
  apply BitVec.eq_of_getLsbD_eq
  intro i hi
  simp only [BitVec.getLsbD_extractLsb', BitVec.getLsbD_append, hi, decide_true, Bool.true_and, Nat.zero_add]
  split
  · rfl
  · split
    · rfl
    · rw [if_pos (by omega)]

/-- The low four bits of TMODE are those of a phase descriptor word of the same mode (30_encoding.md R93). -/
theorem tmodeReg_low (s : State) : s.tmodeReg.extractLsb' 0 4 = s.tm.dir.code ++ s.tm.rate.code ++ s.tm.lines.code :=
  extractLsb'_low ..

theorem encodePD_low (pd : PD) : (encodePD pd).extractLsb' 0 4 = pd.dir.code ++ pd.rate.code ++ pd.lines.code :=
  extractLsb'_low ..

theorem tmodeReg_fields (s : State) : s.tmodeReg.extractLsb' 0 2 = s.tm.lines.code ∧
    (s.tmodeReg.getLsbD 2 = true ↔ s.tm.rate = .dtr) ∧ (s.tmodeReg.getLsbD 3 = true ↔ s.tm.dir = .fromChip) ∧
    s.tmodeReg.extractLsb' 4 4 = 0#4 := by
  unfold State.tmodeReg
  cases s.tm.lines <;> cases s.tm.rate <;> cases s.tm.dir <;> decide

/-- Settles O8: TMODE field by field, and a descriptor word of the same mode. -/
theorem tmodeRegisterImage : Obligations.TmodeRegisterImage := by
  intro s
  obtain ⟨hlines, hrate, hdir, hzero⟩ := tmodeReg_fields s
  refine ⟨?_, hrate, hdir, hzero, ?_, fun pd hl hr hd => ?_⟩
  · rw [hlines]
    cases s.tm.lines <;> rfl
  · rw [hlines]
    cases s.tm.lines <;> decide
  · rw [encodePD_low, tmodeReg_low, hl, hr, hd]

/-! ## Reads and writes (O9) -/

theorem regValue_unlisted {s : State} {offset : Nat}
    (h : offset ∉ [0x00, 0x04, 0x08, 0x0C, 0x10, 0x14, 0x18, 0x1C, 0x20, 0x24, 0x28, 0x2C, 0x30]) : regValue offset s = 0 := by
  unfold regValue
  split <;> first | rfl | simp at h

theorem regRead_plain {s : State} {offset : Nat} (h28 : offset ≠ 0x28) (h2C : offset ≠ 0x2C) :
    regRead offset s = { s with busOut := s.busOut ++ [regValue offset s] } := by
  unfold regRead regReadEffect
  split
  · exact absurd rfl h28
  · exact absurd rfl h2C
  · rfl

theorem regRead_rxData {s : State} {b : Byte} (h : s.rx[s.rxRead]? = some b) :
    regRead 0x2C s = { s with rxRead := s.rxRead + 1, busOut := s.busOut ++ [b.setWidth 32] } := by
  obtain ⟨hlt, hb⟩ := List.getElem?_eq_some_iff.1 h
  simp [regRead, regReadEffect, regValue, hlt, hb]

theorem regRead_rxEmpty {s : State} (h : s.rx.length ≤ s.rxRead) : regRead 0x2C s =
    { s with freeCount := s.freeCount + 1, busOut := s.busOut ++ [(Config.freeByte s.freeCount).setWidth 32] } := by
  simp [regRead, regReadEffect, regValue, Nat.not_lt.2 h]

theorem regWrite_ignored {s : State} {v : Word} {offset : Nat} (h : offset ∉ [0x00, 0x04, 0x08, 0x0C, 0x10, 0x28]) :
    regWrite offset v s = .next s := by
  unfold regWrite
  split <;> first | rfl | simp at h

theorem operand_toNat {c : Cfg} {v : Word} : (c.operand v).toNat = v.toNat % 2 ^ c.operandBits := by
  have hle : v.toNat % 2 ^ c.operandBits ≤ v.toNat := Nat.mod_le ..
  rw [Cfg.operand, BitVec.toNat_ofNat, Nat.mod_eq_of_lt (hle.trans_lt v.isLt)]

/-- Settles O9: one lemma for each way an access can go. -/
theorem registerImageReadsAndWrites : Obligations.RegisterImageReadsAndWrites := by
  refine ⟨fun _ => ⟨rfl, rfl, rfl, rfl, rfl, rfl, rfl, rfl, rfl, rfl, rfl⟩, fun _ _ => regValue_unlisted,
    fun _ _ => regRead_plain, fun _ _ => regRead_rxData, fun _ h => ⟨_, regRead_rxEmpty h⟩, fun _ => ⟨_, rfl⟩,
    fun _ _ => ⟨rfl, rfl, rfl, rfl, rfl⟩, fun c v => ⟨operand_toNat, fun h => ?_⟩, fun _ _ _ => regWrite_ignored⟩
  apply BitVec.eq_of_toNat_eq
  rw [operand_toNat, h, Nat.mod_eq_of_lt v.isLt]

/-! ## CMD (O10, O13) -/

/-- A byte that decodes is the code of the command. -/
theorem decodeCode_ok {b : Byte} {i : Instr} (h : decodeCode b = .ok i) : b = encode i := by
  unfold decodeCode at h
  split at h <;> cases h <;> rfl

theorem decode_ok {b : Byte} {i : Instr} {rest : List Byte} (h : decode [b] = .ok (i, rest)) : b = encode i := by
  cases hb : decodeCode b with
  | error e => simp [decode, hb, Except.map] at h
  | ok j =>
    simp only [decode, hb, Except.map, Except.ok.injEq, Prod.mk.injEq] at h
    exact h.1 ▸ decodeCode_ok hb

/-- With RUN = 0 a code of the table runs its command. -/
theorem writeCmd_code {i : Instr} {s : State} (hr : s.run = false) : writeCmd (encode i) s = exec i s := by
  simp [writeCmd, hr, decode_encode]

/-- Settles O10: a command leaves its own code, an undefined code itself. -/
theorem commandRegisterHoldsTheCode : Obligations.CommandRegisterHoldsTheCode := by
  refine ⟨fun code s t hr h => ?_, fun i s hr => writeCmd_code hr, fun code s hr => by simp [writeCmd, hr]⟩
  simp only [writeCmd, hr, Bool.false_eq_true, if_false] at h
  split at h
  · next i _ hd => rw [exec_cmd h hr, decode_ok hd]
  · cases h
    rfl

/-- Settles O13: the low byte is the command's code, and the step is HOST's write of it to CMD. -/
theorem stepRunsTheDecodedCommand : Obligations.StepRunsTheDecodedCommand := by
  intro s w i rest hr hm he hd
  have hw : step s = writeCmd (w.setWidth 8) { s with env := rest } := by
    simp only [step, hm, Bool.false_eq_true, if_false, he]
    rfl
  rw [hw, decode_ok hd]
  exact writeCmd_code hr

/-! ## The transmitted byte (O22) -/

/-- Settles O22: without its byte a transmitted phase makes no call, and TXDATA supplies it. -/
theorem holdsUntilHostSuppliesTheByte : Obligations.HoldsUntilHostSuppliesTheByte := by
  intro s m i n rest ht hf
  have hnone : pendingCall s = none := by simp [pendingCall, ht, opCall, opPhase, txByte, hf]
  refine ⟨hnone, fun as => drive_stuck hnone as, fun v => ⟨_, rfl, ?_⟩⟩
  simp only [pendingCall, ht, opCall, opPhase, txByte, hf, ensuring, List.nil_append, List.head?_cons, Option.map_some]
  rfl

/-! ## Reset (O51) -/

/-- Settles O51: after reset nothing is to do, and RX and CKSUM are empty. -/
theorem resetMeetsTheInvariants : Obligations.ResetMeetsTheInvariants :=
  ⟨fun _ => rfl, ⟨fun _ => rfl, nofun⟩, ⟨by decide, by decide, by decide⟩, commitsOwn_of_nil rfl⟩

end Sys2Proof.Machine
end

section
/-! THEOREM. A command that ends OK leaves TM narrow when QPI_EN is 0 (O46, 10_state.md R33). The list of items is read ahead:
`narrowAtEnd` says whether TM is (L1, SDR, TO_CHIP) when the list ends the command OK, whatever it was before its phases. -/

namespace Sys2Proof.Machine

/-! ## Reading the list ahead -/

/-- Whether TM is narrow after an item, `b` saying whether it was before; `qpi` is the sampled QPI_EN, `reads` whether a wait
reads the status itself (41_sequencer_poller.md R168) or leaves TM alone (R173). -/
def Op.narrows (qpi reads : Bool) (b : Bool) (op : Op) : Bool :=
  match op with
  | .opcode _ off => off || !qpi
  | .phase _ pd _ => pd.actions.modeOff || decide (pd.want = narrowMode)
  | .preset _ _ => false
  | .rx _ i n => if i < n then !qpi else b
  | .tx _ i n _ => if i < n then !qpi else b
  | .rxi => !qpi
  | .modeOff _ => true
  | .abort _ _ => true
  | .poll _ => if reads then !qpi else b
  | .pollTest _ => b && !qpi
  | .chunk => b && !qpi
  | .select | .deselect | .autoPoll _ | .commit _ _ | .qeTest | .loadWrite | .advance _ | .finish _ => b

/-- Whether TM is narrow when the list ends its command OK. -/
def narrowAtEnd (qpi reads : Bool) (b : Bool) (ops : List Op) : Bool :=
  match ops with
  | [] => b
  | .finish r :: _ => b || r != .ok
  | op :: rest => narrowAtEnd qpi reads (op.narrows qpi reads b) rest

/-- Whether TM is narrow after a list that does not end the command. -/
def narrowAfter (qpi reads : Bool) (b : Bool) (ops : List Op) : Bool := ops.foldl (Op.narrows qpi reads) b

section
variable {qpi reads b : Bool}

theorem narrowAtEnd_cons {op : Op} {rest : List Op} (h : ∀ r, op ≠ .finish r) :
    narrowAtEnd qpi reads b (op :: rest) = narrowAtEnd qpi reads (op.narrows qpi reads b) rest := by
  cases op with
  | finish r => exact absurd rfl (h r)
  | _ => rfl

theorem narrowAtEnd_append {ops rest : List Op} (h : ∀ op ∈ ops, ∀ r, op ≠ .finish r) :
    narrowAtEnd qpi reads b (ops ++ rest) = narrowAtEnd qpi reads (narrowAfter qpi reads b ops) rest := by
  induction ops generalizing b with
  | nil => rfl
  | cons op ops ih =>
    rw [List.cons_append, narrowAtEnd_cons (h op (by simp)), ih fun x hx => h x (by simp [hx])]
    rfl

theorem narrows_mono {op : Op} (h : op.narrows qpi reads false = true) : op.narrows qpi reads b = true := by
  cases op <;> simp_all [Op.narrows]

/-- A narrower start leaves no wider end. -/
theorem narrowAtEnd_of {b' : Bool} {ops : List Op} (h : narrowAtEnd qpi reads b ops = true) (hb : b = true → b' = true) :
    narrowAtEnd qpi reads b' ops = true := by
  induction ops generalizing b b' with
  | nil => exact hb h
  | cons op rest ih =>
    by_cases hf : ∃ r, op = .finish r
    · obtain ⟨r, rfl⟩ := hf
      simp only [narrowAtEnd, Bool.or_eq_true] at h ⊢
      exact h.imp_left hb
    · have hf : ∀ r, op ≠ .finish r := fun r e => hf ⟨r, e⟩
      rw [narrowAtEnd_cons hf] at h ⊢
      refine ih h fun ho => ?_
      cases b with
      | true => rwa [hb rfl]
      | false => exact narrows_mono ho

theorem narrowAfter_append (ops ops' : List Op) :
    narrowAfter qpi reads b (ops ++ ops') = narrowAfter qpi reads (narrowAfter qpi reads b ops) ops' := by
  simp [narrowAfter]

end

/-! ## Brackets -/

/-- The descriptors whose bracket ends narrow: all of them with QPI_EN = 0; with QPI_EN = 1 that of EXIT_QPI, which has no data
phase (46_mode_reset.md R254). -/
def CmdDesc.leavesNarrow (qpi : Bool) (d : CmdDesc) : Bool :=
  !qpi || (d.opcodeOff && d.data == .noData && d.post == .noPoll)

/-- A mode on one line at single rate is narrow (40_phase_encoder.md R126). -/
theorem want_narrow {pd : PD} (hl : pd.lines = .l1) (hr : pd.rate = .sdr) : pd.want = narrowMode := by
  simp [PD.want, Mode.norm, hl, hr, narrowMode]

/-- A phase that does not need MODE_OFF as the last of its bracket is narrow itself (40_phase_encoder.md R137). -/
theorem want_of_closesMode {p : Sampled} {leaving : Bool} {pd : PD} (hq : p.qpi = true → leaving = true)
    (h : closesMode p leaving pd = false) : pd.lines = .l1 ∧ pd.want = narrowMode := by
  cases hp : p.qpi with
  | true => simp [closesMode, hp, hq hp] at h
  | false =>
    have hw : pd.lines = .l1 ∧ pd.rate = .sdr := by simpa [closesMode, hp, offAction] using h
    exact ⟨hw.1, want_narrow hw.1 hw.2⟩

theorem narrowAfter_phaseOps {qpi reads b : Bool} {c : Cfg} {x : PhaseAt}
    (h : x.pd.actions.modeOff = true ∨ (x.pd.dummy = .none ∧ x.pd.want = narrowMode)) :
    narrowAfter qpi reads b (phaseOps c x.pos x.pd x.tx) = true := by
  unfold phaseOps
  split
  · rcases h with h | ⟨-, h⟩ <;> simp [narrowAfter, Op.narrows, h]
  · next hn =>
    rcases h with h | ⟨hd, -⟩
    · simp [h, narrowAfter, Op.narrows]
    · exact absurd hd hn

/-- The last phase of a bracket without data phases ends it narrow. -/
theorem narrowAfter_markLast {qpi reads : Bool} {c : Cfg} {off : PD → Bool} (xs : List PhaseAt)
    (h : ∀ x ∈ xs, off x.pd = false → x.pd.dummy = .none ∧ x.pd.want = narrowMode) (b : Bool) (hb : xs = [] → b = true) :
    narrowAfter qpi reads b ((markLast off xs).flatMap fun x => phaseOps c x.pos x.pd x.tx) = true := by
  induction xs generalizing b with
  | nil => exact hb rfl
  | cons x xs ih =>
    cases xs with
    | nil =>
      simp only [markLast, List.flatMap_cons, List.flatMap_nil, List.append_nil]
      apply narrowAfter_phaseOps
      cases ho : off x.pd with
      | true => exact .inl rfl
      | false => exact .inr (h x (by simp) ho)
    | cons y ys =>
      rw [markLast, List.flatMap_cons, narrowAfter_append]
      · exact ih (fun z hz => h z (by simp [List.mem_cons.1 hz])) _ (by simp)
      · simp

/-- The phases before the data: a preset's are on four lines. -/
theorem mem_headPhases_dummy {c : Cfg} {p : Sampled} {d : CmdDesc} {addr addr2 : Word} {x : PhaseAt}
    (h : x ∈ addrPhases c p d addr addr2 ++
      ((d.shapeIn c).dummy.zipIdx.map fun (item, i) => dummyPhases c p i item).flatten) :
    x.pd.dummy = .none ∨ x.pd.lines = .l4 := by
  rcases List.mem_append.1 h with h | h
  · simp only [addrPhases, List.mem_map] at h
    obtain ⟨_, -, rfl⟩ := h
    exact .inl rfl
  · simp only [List.mem_flatten, List.mem_map] at h
    obtain ⟨l, ⟨⟨item, i⟩, -, rfl⟩, h⟩ := h
    cases item with
    | bytes =>
      obtain ⟨-, rfl⟩ := List.mem_replicate.1 h
      exact .inl rfl
    | preset =>
      obtain rfl := List.mem_singleton.1 h
      exact .inr rfl

theorem narrowAfter_dataOps {qpi reads b : Bool} {m : Width} {data : DataKind} {len : Nat}
    (h : (data.phases len = 0 ∧ b = true) ∨ (data.phases len ≠ 0 ∧ qpi = false)) :
    narrowAfter qpi reads b (dataOps m data len) = true := by
  cases data with
  | noData => simpa [DataKind.phases, dataOps, narrowAfter] using h
  | rxi =>
    have hq : qpi = false := by simpa [DataKind.phases] using h
    simp [dataOps, narrowAfter, Op.narrows, hq]
  | rx k | tx k =>
    rcases h with ⟨h0, hb⟩ | ⟨h0, hq⟩
    · have h0 : k.value len = 0 := h0
      simp [dataOps, narrowAfter, Op.narrows, h0, hb]
    · have h0 : 0 < k.value len := Nat.pos_of_ne_zero h0
      simp [dataOps, narrowAfter, Op.narrows, h0, hq]

/-- A bracket ends narrow, from any TM. -/
theorem narrowAfter_bracketOps {reads b : Bool} {c : Cfg} {p : Sampled} {d : CmdDesc} {addr addr2 : Word} {len : Nat}
    (hd : CmdDesc.leavesNarrow p.qpi d = true) : narrowAfter p.qpi reads b (bracketOps c p d addr addr2 len) = true := by
  have hoff : p.qpi = true → d.opcodeOff = true ∧ d.data = .noData := by
    intro hq
    simp only [CmdDesc.leavesNarrow, hq, Bool.not_true, Bool.false_or, Bool.and_eq_true, beq_iff_eq] at hd
    exact hd.1
  have hopc (b : Bool) : narrowAfter p.qpi reads b [.opcode d.opc (d.opcodeOff && p.qpi)] = true := by
    show ((d.opcodeOff && p.qpi) || !p.qpi) = true
    cases hq : p.qpi with
    | false => simp
    | true => simp [(hoff hq).1]
  have hdesel (b : Bool) : narrowAfter p.qpi reads b [.deselect] = b := rfl
  simp only [bracketOps, narrowAfter_append, hopc, hdesel]
  apply narrowAfter_dataOps
  by_cases h0 : d.data.phases len = 0
  · refine .inl ⟨h0, ?_⟩
    unfold headPhases
    dsimp only
    rw [if_pos h0]
    refine narrowAfter_markLast _ (fun x hx ho => ?_) true fun _ => rfl
    obtain ⟨hl, hw⟩ := want_of_closesMode (fun hq => (hoff hq).1) ho
    exact ⟨(mem_headPhases_dummy hx).resolve_right (by simp [hl]), hw⟩
  · refine .inr ⟨h0, ?_⟩
    cases hq : p.qpi with
    | false => rfl
    | true => exact absurd (by rw [(hoff hq).2]; rfl) h0

theorem narrowAfter_all {qpi reads : Bool} {ops : List Op} (h : ∀ op ∈ ops, op.narrows qpi reads true = true) :
    narrowAfter qpi reads true ops = true := by
  induction ops with
  | nil => rfl
  | cons op ops ih =>
    show narrowAfter qpi reads (op.narrows qpi reads true) ops = true
    rw [h op (by simp)]
    exact ih fun x hx => h x (by simp [hx])

theorem narrowAfter_tailOps {qpi reads : Bool} {c : Cfg} {d : CmdDesc} (hd : CmdDesc.leavesNarrow qpi d = true) :
    narrowAfter qpi reads true (tailOps c d) = true := by
  refine narrowAfter_all fun op hm => ?_
  rcases mem_tailOps hm with ⟨f, v, -, rfl⟩ | ⟨hp, sp, -, rfl⟩
  · rfl
  · cases qpi with
    | false => simp [Op.narrows]
    | true => simp [CmdDesc.leavesNarrow, hp] at hd

theorem narrowAfter_subOps {reads b : Bool} {c : Cfg} {p : Sampled} {d : CmdDesc} {addr addr2 : Word} {len : Nat}
    (hd : CmdDesc.leavesNarrow p.qpi d = true) : narrowAfter p.qpi reads b (subOps c p d addr addr2 len) = true := by
  rw [subOps, narrowAfter_append, narrowAfter_bracketOps hd, narrowAfter_tailOps hd]

theorem bracketOps_ne_finish {c : Cfg} {p : Sampled} {d : CmdDesc} {addr addr2 : Word} {len : Nat} :
    ∀ op ∈ bracketOps c p d addr addr2 len, ∀ r, op ≠ .finish r := by
  intro op h r
  rcases mem_bracketOps h with h | ⟨_, _, _, -, rfl⟩
  · rintro rfl
    simp [inBracket] at h
  · simp

theorem subOps_ne_finish {c : Cfg} {p : Sampled} {d : CmdDesc} {addr addr2 : Word} {len : Nat} :
    ∀ op ∈ subOps c p d addr addr2 len, ∀ r, op ≠ .finish r := by
  intro op h r
  rcases List.mem_append.1 h with h | h
  · exact bracketOps_ne_finish op h r
  · rcases mem_tailOps h with ⟨_, _, -, rfl⟩ | ⟨-, _, -, rfl⟩ <;> simp

theorem narrowAtEnd_bracket {reads b : Bool} {c : Cfg} {p : Sampled} {d : CmdDesc} {addr addr2 : Word} {len : Nat}
    (hd : CmdDesc.leavesNarrow p.qpi d = true) (rest : List Op) :
    narrowAtEnd p.qpi reads b (bracketOps c p d addr addr2 len ++ rest) = narrowAtEnd p.qpi reads true rest := by
  rw [narrowAtEnd_append bracketOps_ne_finish, narrowAfter_bracketOps hd]

theorem narrowAtEnd_sub {reads b : Bool} {c : Cfg} {p : Sampled} {d : CmdDesc} {addr addr2 : Word} {len : Nat}
    (hd : CmdDesc.leavesNarrow p.qpi d = true) (rest : List Op) :
    narrowAtEnd p.qpi reads b (subOps c p d addr addr2 len ++ rest) = narrowAtEnd p.qpi reads true rest := by
  rw [narrowAtEnd_append subOps_ne_finish, narrowAfter_subOps hd]

/-! ## The moves -/

/-- Whether TM is narrow when `ops`, to do in state `s`, end the command OK. -/
def State.narrowEnd (s : State) (ops : List Op) : Bool :=
  narrowAtEnd s.smp.qpi (decide (s.cfg.pollImpl = .reads)) (decide (s.tm = narrowMode)) ops

theorem State.narrowEnd_congr {s t : State} (hc : t.cfg = s.cfg) (hp : t.smp = s.smp) (htm : t.tm = s.tm) (ops : List Op) :
    t.narrowEnd ops = s.narrowEnd ops := by
  unfold State.narrowEnd
  rw [hc, hp, htm]

/-- A poll read is a bracket of its opcode and one data phase (41_sequencer_poller.md R169). -/
theorem statusReadOps_eq (c : Cfg) (p : Sampled) : statusReadOps c p = [.select, .opcode .rdsr1 false, .rxi, .deselect] := rfl

theorem narrowAtEnd_statusRead {qpi reads b : Bool} (c : Cfg) (p : Sampled) (rest : List Op) :
    narrowAtEnd qpi reads b (statusReadOps c p ++ rest) = narrowAtEnd qpi reads (!qpi) rest := by
  simp [statusReadOps_eq, narrowAtEnd, Op.narrows]

/-- What an item expands to ends as narrow as the item. -/
theorem Expands.narrowEnd {s : State} {op : Op} {rest ops : List Op} (he : Expands s op ops)
    (h : s.narrowEnd (op :: rest) = true) : s.narrowEnd (ops ++ rest) = true := by
  have hop : s.narrowEnd (op :: rest) = narrowAtEnd s.smp.qpi (decide (s.cfg.pollImpl = .reads))
      (op.narrows s.smp.qpi (decide (s.cfg.pollImpl = .reads)) (decide (s.tm = narrowMode))) rest :=
    narrowAtEnd_cons he.no_end.1
  rw [hop] at h
  unfold State.narrowEnd
  cases he with
  | rxDone hi | txDone hi => simpa [Op.narrows, hi] using h
  | presetDone => exact narrowAtEnd_of h nofun
  | modeOffDone ht => exact narrowAtEnd_of h fun _ => by simp [ht]
  | pollReads hr =>
    rw [List.append_assoc, narrowAtEnd_statusRead, List.singleton_append, narrowAtEnd_cons (by simp)]
    exact narrowAtEnd_of h fun hb => by simpa [Op.narrows, hr] using hb
  | pollAssisted hr =>
    rw [List.singleton_append, narrowAtEnd_cons (by simp)]
    exact narrowAtEnd_of h fun hb => by simpa [Op.narrows, hr] using hb
  | pollSeen | chunksDone =>
    refine narrowAtEnd_of h fun hb => ?_
    simp only [Op.narrows, Bool.and_eq_true] at hb
    exact hb.1
  | pollAgain =>
    rw [List.append_assoc, narrowAtEnd_statusRead, List.singleton_append, narrowAtEnd_cons (by simp)]
    refine narrowAtEnd_of h fun hb => ?_
    simp only [Op.narrows, Bool.and_eq_true] at hb
    simp [Op.narrows, hb.2]
  | quadSeen | loaded | advanced => exact h
  | @nextChunk size =>
    have hnf : ∀ op ∈ chunkOps s.cfg s.smp s.off size ++ [.advance size, .chunk], ∀ r, op ≠ .finish r := by
      intro op hm r
      simp only [chunkOps, List.mem_append, List.mem_cons, List.not_mem_nil, or_false] at hm
      rcases hm with (hm | hm) | rfl | rfl
      · exact subOps_ne_finish op hm r
      · exact subOps_ne_finish op hm r
      · simp
      · simp
    rw [narrowAtEnd_append hnf]
    refine narrowAtEnd_of h fun hb => ?_
    simp only [Op.narrows, Bool.and_eq_true] at hb
    have hd (d : CmdDesc) : CmdDesc.leavesNarrow s.smp.qpi d = true := by simp [CmdDesc.leavesNarrow, hb.2]
    rw [narrowAfter_append, chunkOps, narrowAfter_append, narrowAfter_subOps (hd _)]
    simp [narrowAfter, Op.narrows, hb.2]

/-- The items to do are those of command `i`, and TM will be narrow when they end it OK, or is when they have. -/
def EndsNarrow (i : Instr) (s : State) : Prop :=
  (∀ op ∈ s.todo, permitted i op) ∧ ((s.todo = [] ∧ s.result ≠ .ok) ∨ s.narrowEnd s.todo = true)

/-- With something left to do TM will be narrow. -/
theorem EndsNarrow.ahead {i : Instr} {s : State} {op : Op} {rest : List Op} (k : EndsNarrow i s) (ht : s.todo = op :: rest) :
    s.narrowEnd (op :: rest) = true := by
  rw [← ht]
  exact k.2.resolve_left fun h => by simp [ht] at h

theorem narrowEnd_permitted_ok {i : Instr} {s : State} {op : Op} {rest : List Op} (hp : permitted i op)
    (he : EndsWith op .ok) (h : s.narrowEnd (op :: rest) = true) : s.tm = narrowMode := by
  generalize hr : Result.ok = r at he
  cases he with
  | finish => simpa [State.narrowEnd, narrowAtEnd, ← hr] using h
  | abort => exact absurd hr.symm hp.2
  | poll | pollTest | autoPoll => exact absurd hr.symm hp.2
  | failure he => exact absurd hr.symm he

/-- A command that ends does so narrow, or not OK. -/
theorem EndsNarrow.finish {i : Instr} {s u : State} {op : Op} {rest : List Op} {r : Result} (k : EndsNarrow i s)
    (ht : s.todo = op :: rest) (he : EndsWith op r) (hu : u.tm = s.tm) : EndsNarrow i (finish r u) := by
  refine ⟨by simp, ?_⟩
  by_cases hr : r = .ok
  · subst hr
    have htm := narrowEnd_permitted_ok (k.1 op (by simp [ht])) he (k.ahead ht)
    right
    simp [State.narrowEnd, narrowAtEnd, hu, htm]
  · exact .inl ⟨by simp, by simpa using hr⟩

theorem Silent.endsNarrow {i : Instr} {s t : State} (h : Silent s t) (k : EndsNarrow i s) : EndsNarrow i t := by
  have hall := h.todo_all (inherited_permitted i) k.1
  cases h with
  | expands ht he => exact ⟨hall, .inr (he.narrowEnd (k.ahead ht))⟩
  | commits ht =>
    refine ⟨hall, .inr ?_⟩
    rw [State.narrowEnd_congr (s := s) (by simp) (by simp) (by simp), setFlag_todo]
    exact k.ahead ht
  | ends ht he => exact k.finish ht he rfl

/-- The item at the head, due and making a call that needs TM, sets TM whatever it was. -/
theorem narrows_of_configure {s : State} {op : Op} {m : Mode} (h : opCall s op = some (.configure m)) (hd : due op = true)
    (qpi reads b b' : Bool) : op.narrows qpi reads b = op.narrows qpi reads b' := by
  cases op with
  | rx | tx => simp_all [due, Op.narrows]
  | opcode | phase | preset | rxi | modeOff => rfl
  | _ => simp [opCall, opPhase] at h

/-- A last data phase without MODE_OFF is narrow itself when QPI_EN is 0. -/
theorem offAction_false {m : Width} (h : offAction m false true = false) : m.lines = .l1 ∧ m.rate = .sdr := by
  simpa [offAction] using h

/-- What a data phase leaves of its loop, with its MODE_OFF, is narrow in the end when QPI_EN is 0: `op` is the loop's item at
the next index. -/
theorem narrowAfter_data {reads b : Bool} {m : Width} {i n : Nat} {pos : Pos} {op : Op} (hi : i < n)
    (hop : ∀ b, op.narrows false reads b = if i + 1 < n then true else b)
    (hb : m.lines = .l1 → m.rate = .sdr → b = true) :
    narrowAfter false reads b ((if offAction m false (i + 1 == n) then [.modeOff pos] else []) ++ [op]) = true := by
  by_cases hlast : i + 1 = n
  · have hstop : ¬ i + 1 < n := by omega
    simp only [hlast, beq_self_eq_true]
    cases ho : offAction m false true with
    | true =>
      show op.narrows false reads true = true
      rw [hop, if_neg hstop]
    | false =>
      obtain ⟨hl, hr⟩ := offAction_false ho
      simp [narrowAfter, hop, hstop, hb hl hr]
  · have hmore : i + 1 < n := by omega
    simp [narrowAfter, hop, hmore]

/-- An accepted phase in the mode it wants leaves TM, once its MODE_OFF is done, as the item said it would. -/
theorem narrowAfter_accepted {s : State} {op : Op} {pd : PD} {x : Byte} {reads b : Bool} (hp : opPhase s op = some (pd, x))
    (htm : s.tm = pd.want) (hd : due op = true) (h : op.narrows s.smp.qpi reads b = true) :
    narrowAfter s.smp.qpi reads (decide (s.tm = narrowMode))
      ((if pd.actions.modeOff then [.modeOff (opPos op)] else []) ++ afterAccept op) = true := by
  rw [htm]
  cases op with
  | opcode o off =>
    simp only [opPhase, Option.some.injEq, Prod.mk.injEq] at hp
    obtain ⟨rfl, -⟩ := hp
    cases off with
    | true => rfl
    | false =>
      have hq : s.smp.qpi = false := by simpa [Op.narrows] using h
      rw [hq]
      rfl
  | phase pos pd' tx =>
    simp only [opPhase, Option.some.injEq, Prod.mk.injEq] at hp
    obtain ⟨rfl, -⟩ := hp
    simp only [Op.narrows, Bool.or_eq_true] at h
    cases hm : pd'.actions.modeOff with
    | true => rfl
    | false => simpa [hm, narrowAfter, afterAccept] using h
  | rxi =>
    simp only [opPhase, Option.some.injEq, Prod.mk.injEq] at hp
    obtain ⟨rfl, -⟩ := hp
    have hq : s.smp.qpi = false := by simpa [Op.narrows] using h
    rw [hq]
    rfl
  | rx m i n =>
    have hi : i < n := by simpa [due] using hd
    simp only [opPhase, Option.some.injEq, Prod.mk.injEq] at hp
    obtain ⟨rfl, -⟩ := hp
    have hq : s.smp.qpi = false := by simpa [Op.narrows, hi] using h
    rw [hq]
    exact narrowAfter_data hi (fun _ => rfl) fun hl hr =>
      decide_eq_true (want_narrow (by simp [pdRx, eff, hl]) hr)
  | tx m i n src =>
    have hi : i < n := by simpa [due] using hd
    simp only [opPhase, Option.map_eq_some_iff, Prod.mk.injEq] at hp
    obtain ⟨_, -, rfl, -⟩ := hp
    have hq : s.smp.qpi = false := by simpa [Op.narrows, hi] using h
    rw [hq]
    exact narrowAfter_data hi (fun _ => rfl) fun hl hr =>
      decide_eq_true (want_narrow (by simp [pdTx, eff, hl]) hr)
  | _ => cases hp

theorem mem_accepted_ne_finish {op : Op} {off : Bool} {pos : Pos} :
    ∀ x ∈ (if off then [.modeOff pos] else []) ++ afterAccept op, ∀ r, x ≠ .finish r := by
  rintro x hx r rfl
  rcases List.mem_append.1 hx with hx | hx
  · split at hx <;> simp at hx
  · cases op <;> simp [afterAccept] at hx

theorem Answered.endsNarrow {i : Instr} {s t : State} {c : Call} {a : Answer} (hc : pendingCall s = some c)
    (hd : ∀ op ∈ s.todo.head?, due op = true) (h : Answered s c a t) (k : EndsNarrow i s) : EndsNarrow i t := by
  have hall := h.todo_all (inherited_permitted i) hc k.1
  obtain ⟨op₀, rest₀, ht₀, hop⟩ := pendingCall_todo hc
  have hd₀ : due op₀ = true := hd op₀ (by simp [ht₀])
  have hahead := k.ahead ht₀
  rw [State.narrowEnd, narrowAtEnd_cons (opCall_ne_finish hop)] at hahead
  cases h with
  | passed ht hkind =>
    obtain ⟨rfl, rfl⟩ : _ ∧ _ := by simpa [ht₀] using ht
    refine ⟨hall, .inr ?_⟩
    rcases hkind with rfl | rfl | ⟨p, rfl⟩ <;> exact hahead
  | ended ht he => exact k.finish ht he rfl
  | configured ht hm =>
    subst hm
    refine ⟨hall, .inr ?_⟩
    show narrowAtEnd _ _ _ s.todo = true
    rw [ht₀, narrowAtEnd_cons (opCall_ne_finish hop), narrows_of_configure hop hd₀ _ _ _ (decide (s.tm = narrowMode))]
    exact hahead
  | failed => exact ⟨hall, .inr rfl⟩
  | clocked ht =>
    obtain ⟨rfl, rfl⟩ : _ ∧ _ := by simpa [ht₀] using ht
    exact ⟨hall, .inr hahead⟩
  | declined => exact k
  | accepted ht hp htm =>
    obtain ⟨rfl, rfl⟩ : _ ∧ _ := by simpa [ht₀] using ht
    refine ⟨hall, .inr ?_⟩
    rw [State.narrowEnd_congr (s := s) (by simp [State.logged]) (by simp [State.logged]) (by simp [State.logged]),
      State.narrowEnd, narrowAtEnd_append mem_accepted_ne_finish]
    exact narrowAtEnd_of hahead fun hb => narrowAfter_accepted hp htm hd₀ hb

/-- A run from a state at rest keeps it. -/
theorem drive_endsNarrow {i : Instr} (as : List Answer) (s : State) (hd : ∀ op ∈ s.todo.head?, due op = true)
    (k : EndsNarrow i s) : EndsNarrow i (drive as s) := by
  refine (drive_induct (P := fun s => (∀ op ∈ s.todo.head?, due op = true) ∧ EndsNarrow i s) (fun _ _ h => h)
    (fun s c a hc h => ⟨answerCall_head (fun _ hd _ => hd) hc a h.1, ?_⟩) as s ⟨hd, k⟩).2
  exact answerCall_keeps (fun _ _ hs => hs.endsNarrow) hc a fun t ht => ht.endsNarrow hc h.1 h.2

/-! ## O46 -/

/-- The commands whose items end narrow from any TM: with QPI_EN = 1 only EXIT_QPI; WAIT_READY when it reads. -/
theorem narrowAtEnd_opsOf {i : Instr} {c : Cfg} {p : Sampled} {b : Bool} (hq : p.qpi = true → i = .exitQpi)
    (hwait : c.pollImpl = .reads ∨ i ≠ .waitReady) (hdtr : i ≠ .dtrEnable ∧ i ≠ .dtrDisable) (hw : i ≠ .write) :
    narrowAtEnd p.qpi (decide (c.pollImpl = .reads)) b (opsOf i c p) = true := by
  have ended {d : CmdDesc} {addr addr2 : Word} {len : Nat} (b : Bool) (hd : CmdDesc.leavesNarrow p.qpi d = true) :
      narrowAtEnd p.qpi (decide (c.pollImpl = .reads)) b (subOps c p d addr addr2 len ++ [.finish .ok]) = true := by
    rw [narrowAtEnd_sub hd]
    rfl
  by_cases hx : i = .exitQpi
  · subst hx
    exact ended b (by cases p.qpi <;> rfl)
  have hqpi : p.qpi = false := by
    cases h : p.qpi with
    | false => rfl
    | true => exact absurd (hq h) hx
  have hd (d : CmdDesc) : CmdDesc.leavesNarrow p.qpi d = true := by simp [CmdDesc.leavesNarrow, hqpi]
  cases hprim : primitiveDesc i c with
  | some d =>
    rw [opsOf_primitive p hprim]
    exact ended b (hd d)
  | none =>
    cases i with
    | waitReady =>
      simp only [opsOf]
      split
      · simp [narrowAtEnd, Op.narrows, hqpi, hwait.resolve_right (by simp)]
      · simp [narrowAtEnd]
    | enterQpi =>
      rw [opsOf, List.append_assoc, List.append_assoc, narrowAtEnd_bracket (hd _), List.singleton_append,
        narrowAtEnd_cons (by simp)]
      exact ended _ (hd _)
    | softReset | erase =>
      rw [opsOf, List.append_assoc, narrowAtEnd_sub (hd _)]
      exact ended _ (hd _)
    | read | getId | getStatus => exact ended b (hd _)
    | dtrEnable => exact absurd rfl hdtr.1
    | dtrDisable => exact absurd rfl hdtr.2
    | write => exact absurd rfl hw
    | _ => cases hprim

/-- WRITE has a chunk to send, its LEN being positive, and stands at its first item. -/
theorem settle_write {s : State} (hlen : s.len ≠ 0) : ∃ (t : State) (size : Nat),
    settle (s.issued .write).todo (s.issued .write) = { t with
      todo := chunkOps t.cfg t.smp t.off size ++ [.advance size, .chunk, .finish .ok] } ∧ t.smp = s.sample .write := by
  let t : State := { s.issued .write with off := s.addr, rem := s.len, srci := 0 }
  have h : settle (s.issued .write).todo (s.issued .write) = settle [.chunk, .finish .ok] t := rfl
  have hrem : ¬ t.rem = 0 := hlen
  refine ⟨t, chunkSize t.cfg.pageSize t.off.toNat t.rem.toNat, ?_, rfl⟩
  rw [h, settle, if_neg hrem]
  simp

theorem write_endsNarrow {s : State} (hq : s.qpiEn = false) (hlen : s.len ≠ 0) :
    EndsNarrow .write (settle (s.issued .write).todo (s.issued .write)) := by
  obtain ⟨t, size, e, hsmp⟩ := settle_write hlen
  rw [e]
  have hd (d : CmdDesc) : CmdDesc.leavesNarrow t.smp.qpi d = true := by simp [CmdDesc.leavesNarrow, hsmp, State.sample, hq]
  refine ⟨fun op hm => ?_, .inr ?_⟩
  · rcases List.mem_append.1 hm with hm | hm
    · rcases mem_chunkOps hm with hm | ⟨_, _, rfl⟩ | ⟨_, he, rfl⟩
      · exact permitted_inBracket hm
      · rfl
      · exact ⟨rfl, he⟩
    · simp only [List.mem_cons, List.not_mem_nil, or_false] at hm
      rcases hm with rfl | rfl | rfl
      · trivial
      · exact ⟨rfl, rfl⟩
      · trivial
  · rw [State.narrowEnd, chunkOps, List.append_assoc]
    show narrowAtEnd t.smp.qpi _ _ _ = true
    rw [narrowAtEnd_sub (hd _), narrowAtEnd_sub (hd _)]
    simp [narrowAtEnd, Op.narrows, hsmp, State.sample, hq]

/-- A command that makes calls, just issued with good operands, ends narrow. -/
theorem issued_endsNarrow {i : Instr} {s : State} (hk : checksHold (checksOf i s.cfg) s.cfg (s.sample i) = true)
    (hq : s.qpiEn = true → i = .exitQpi) (hwait : s.cfg.pollImpl = .reads ∨ i ≠ .waitReady)
    (hdtr : i ≠ .dtrEnable ∧ i ≠ .dtrDisable) : EndsNarrow i (settle (s.issued i).todo (s.issued i)) := by
  by_cases hw : i = .write
  · subst hw
    refine write_endsNarrow ?_ ?_
    · cases h : s.qpiEn with
      | false => rfl
      | true => cases hq h
    · rintro h0
      simp [checksOf, checksHold, Check.holds, State.sample, h0] at hk
  · refine settle_keeps (fun _ _ hs => hs.endsNarrow) _ (s.issued i) ⟨fun _ => mem_opsOf_permitted, .inr ?_⟩
    exact narrowAtEnd_opsOf (p := s.sample i) hq hwait hdtr hw

/-- DTR_ENABLE and DTR_DISABLE make no call (46_mode_reset.md R255, R256). -/
theorem dtr_trace {i : Instr} {s : State} (h : i = .dtrEnable ∨ i = .dtrDisable) (as : List Answer) :
    (drive as (settle (s.issued i).todo (s.issued i))).trace = s.trace := by
  have hstuck : pendingCall (settle (s.issued i).todo (s.issued i)) = none := by
    rcases h with rfl | rfl <;> simp [State.issued, opsOf, settle, pendingCall]
  rw [drive_stuck hstuck]
  exact settle_trace ..

/-- Settles O46: read ahead, the items of every command that makes calls end with TM narrow. -/
theorem successLeavesTheTransportNarrow : Obligations.SuccessLeavesTheTransportNarrow := by
  intro i s t hr hwait h hend hok htrace hqpi
  have hq : s.qpiEn = true → i = .exitQpi := by
    intro hs
    have hne : t.flag .qpiEn ≠ s.flag .qpiEn := by simp [State.flag, hs, hqpi]
    have hi := exec_flag h hne
    rwa [show t.flag .qpiEn = false from hqpi] at hi
  have hcoh : t.runCoherent := exec_runCoherent h fun hr' => by simp [hr] at hr'
  rcases exec_cases h with ⟨hr', -⟩ | ⟨-, -, rfl⟩ | ⟨-, hk, rfl⟩
  · simp [hr] at hr'
  · simp at hok
  · by_cases hdtr : i = .dtrEnable ∨ i = .dtrDisable
    · exact absurd (dtr_trace hdtr _) htrace
    · rw [not_or] at hdtr
      have hkeep := drive_endsNarrow s.xp _ (fun op ho => (settle_head _ _ op ho).1) (issued_endsNarrow hk hq hwait hdtr)
      rcases hkeep.2 with ⟨-, hbad⟩ | hnarrow
      · exact absurd hok hbad
      · rw [hcoh.1 hend] at hnarrow
        exact of_decide_eq_true hnarrow

end Sys2Proof.Machine
end

section
/-! THEOREMS. What the reference device's memory reads (20_memory.md R81 to R84): after a write and an erase, and that its
contents determine it (O57); after a program that stays inside its page (O58). -/

namespace Sys2Proof.Machine

/-! ## Reading -/

@[simp] theorem memRead_nil (x : Nat) : memRead [] x = erasedByte := rfl

@[simp] theorem memRead_cons (k : Nat) (v : Byte) (rest : List Host.Cell) (x : Nat) :
    memRead ((k, v) :: rest) x = if x = k then v else memRead rest x := by
  rw [memRead, List.lookup_cons]
  by_cases h : x = k
  · simp [h]
  · simp [beq_false_of_ne h, h, memRead]

/-- An address that no cell lists reads as erased. -/
theorem memRead_of_not_listed {m : List Host.Cell} {x : Nat} (h : ∀ c ∈ m, x ≠ c.1) : memRead m x = erasedByte := by
  induction m with
  | nil => rfl
  | cons c rest ih =>
    obtain ⟨hx, hrest⟩ := List.forall_mem_cons.1 h
    rw [memRead_cons, if_neg hx, ih hrest]

/-- The cells of a canonical memory rise, so an address up to `k` is not among the cells behind `k`. -/
theorem memRead_of_below {m : List Host.Cell} {k x : Nat} (h : ∀ c ∈ m, k < c.1) (hx : x ≤ k) : memRead m x = erasedByte :=
  memRead_of_not_listed fun c hc => (hx.trans_lt (h c hc)).ne

/-! ## Writing and erasing -/

/-- The byte written reads back, also where writing the erased byte drops its cell; every other byte reads as before. -/
theorem memRead_memWrite {m : List Host.Cell} (h : memWf m = true) (a x : Nat) (b : Byte) :
    memRead (memWrite m a b) x = if x = a then b else memRead m x := by
  induction m with
  | nil => by_cases hb : b = erasedByte <;> simp [memWrite, hb]
  | cons c rest ih =>
    obtain ⟨k, v⟩ := c
    obtain ⟨-, hlt, hrest⟩ := memWf_cons.1 h
    rcases lt_trichotomy a k with hak | rfl | hka
    · have hbelow : memRead rest a = erasedByte := memRead_of_below hlt hak.le
      by_cases hb : b = erasedByte
      · by_cases hx : x = a <;> simp [memWrite, hak, hb, hx, hak.ne, hbelow]
      · simp [memWrite, hak, hb]
    · have hbelow : memRead rest a = erasedByte := memRead_of_below hlt le_rfl
      by_cases hb : b = erasedByte <;> by_cases hx : x = a <;> simp [memWrite, hb, hx, hbelow]
    · rw [memWrite, if_neg hka.not_gt, if_neg hka.ne', memRead_cons, memRead_cons, ih hrest]
      by_cases hx : x = k
      · simp [hx, hka.ne]
      · simp [hx]

/-- The erased unit reads as erased, every byte outside it as before. -/
theorem memRead_memErase (m : List Host.Cell) (base n x : Nat) :
    memRead (memErase m base n) x = if base ≤ x ∧ x < base + n then erasedByte else memRead m x := by
  induction m with
  | nil => simp [memErase]
  | cons c rest ih =>
    obtain ⟨k, v⟩ := c
    simp only [memErase] at ih
    rw [memErase, List.filter_cons]
    by_cases hk : base ≤ k ∧ k < base + n
    · rw [if_neg (by simpa using hk), ih, memRead_cons]
      by_cases hx : x = k
      · simp [hx, hk]
      · simp [hx]
    · rw [if_pos (by simp; omega), memRead_cons, memRead_cons, ih]
      by_cases hx : x = k
      · simp [hx, hk]
      · simp [hx]

/-! ## Equal contents are equal data -/

/-- The first cell of a canonical memory is the first address that does not read as erased. -/
theorem first_le_of_reads_alike {k k' : Nat} {v v' : Byte} {rest rest' : List Host.Cell}
    (h : memWf ((k, v) :: rest) = true) (h' : memWf ((k', v') :: rest') = true)
    (hr : ∀ x, memRead ((k, v) :: rest) x = memRead ((k', v') :: rest') x) : k' ≤ k := by
  obtain ⟨hv, -, -⟩ := memWf_cons.1 h
  obtain ⟨-, hlt', -⟩ := memWf_cons.1 h'
  by_contra hlt
  have hk : v = memRead rest' k := by simpa [show k ≠ k' by omega] using hr k
  exact hv (hk.trans (memRead_of_below hlt' (by omega)))

/-- Two canonical memories that read alike list the same cells. -/
theorem eq_of_reads_alike {m m' : List Host.Cell} (h : memWf m = true) (h' : memWf m' = true)
    (hr : ∀ x, memRead m x = memRead m' x) : m = m' := by
  induction m generalizing m' with
  | nil =>
    cases m' with
    | nil => rfl
    | cons c' rest' =>
      obtain ⟨k', v'⟩ := c'
      have hread : erasedByte = v' := by simpa using hr k'
      exact absurd hread.symm (memWf_cons.1 h').1
  | cons c rest ih =>
    obtain ⟨k, v⟩ := c
    obtain ⟨hv, hlt, hrest⟩ := memWf_cons.1 h
    cases m' with
    | nil => exact absurd (by simpa using hr k) hv
    | cons c' rest' =>
      obtain ⟨k', v'⟩ := c'
      obtain ⟨-, hlt', hrest'⟩ := memWf_cons.1 h'
      obtain rfl : k = k' :=
        le_antisymm (first_le_of_reads_alike h' h fun x => (hr x).symm) (first_le_of_reads_alike h h' hr)
      obtain rfl : v = v' := by simpa using hr k
      refine congrArg _ (ih hrest hrest' fun x => ?_)
      by_cases hx : x = k
      · rw [memRead_of_below hlt hx.le, memRead_of_below hlt' hx.le]
      · simpa [hx] using hr x

/-- Settles O57: each clause is the rule of its operation. -/
theorem deviceMemoryLaws : Obligations.DeviceMemoryLaws :=
  ⟨fun _ a x b h => memRead_memWrite h a x b, fun m base n x _ => memRead_memErase m base n x,
    fun _ _ => eq_of_reads_alike⟩

/-! ## Programming inside a page -/

/-- The address of byte `i` of a program does not wrap while it stays inside the page (R83). -/
theorem programAddress_inside_page {page addr i : Nat} (h : addr % page + i < page) :
    addr - addr % page + (addr + i) % page = addr + i := by
  have hmod : (addr + i) % page = addr % page + i := by rw [← Nat.mod_add_mod, Nat.mod_eq_of_lt h]
  have := Nat.mod_le addr page
  omega

/-- One byte of a program inside its page. -/
theorem programBytes_cons_inside_page {page addr i : Nat} (h : addr % page + i < page) (m : List Host.Cell) (b : Byte)
    (rest : List Byte) : programBytes m page addr i (b :: rest) =
      programBytes (memWrite m (addr + i) (memRead m (addr + i) &&& b)) page addr (i + 1) rest := by
  rw [programBytes, programAddress_inside_page h]

/-- A program inside its page leaves the bytes outside its range. -/
theorem memRead_programBytes_outside {m : List Host.Cell} (h : memWf m = true) {page addr i x : Nat} {v : List Byte}
    (hp : addr % page + i + v.length ≤ page) (hx : x < addr + i ∨ addr + i + v.length ≤ x) :
    memRead (programBytes m page addr i v) x = memRead m x := by
  induction v generalizing m i with
  | nil => rfl
  | cons b rest ih =>
    rw [List.length_cons] at hp hx
    rw [programBytes_cons_inside_page (by omega), ih (memWf_memWrite h _ _) (by omega) (by omega), memRead_memWrite h,
      if_neg (by omega)]

/-- A program inside its page ANDs byte `j` into the byte it finds (R83). -/
theorem memRead_programBytes_inside {m : List Host.Cell} (h : memWf m = true) {page addr i j : Nat} {v : List Byte} {b : Byte}
    (hp : addr % page + i + v.length ≤ page) (hb : v[j]? = some b) :
    memRead (programBytes m page addr i v) (addr + i + j) = memRead m (addr + i + j) &&& b := by
  induction v generalizing m i j with
  | nil => simp at hb
  | cons b0 rest ih =>
    rw [List.length_cons] at hp
    have hwf := memWf_memWrite h (addr + i) (memRead m (addr + i) &&& b0)
    rw [programBytes_cons_inside_page (by omega)]
    cases j with
    | zero =>
      obtain rfl : b0 = b := by simpa using hb
      rw [memRead_programBytes_outside hwf (by omega) (by omega), memRead_memWrite h, if_pos (Nat.add_zero _), Nat.add_zero]
    | succ j =>
      have hstep := ih hwf (i := i + 1) (j := j) (by omega) hb
      rw [memRead_memWrite h, if_neg (by omega)] at hstep
      rwa [show addr + i + (j + 1) = addr + (i + 1) + j by omega]

/-- Settles O58: erased bytes have every bit set, so ANDing a byte into one leaves that byte. -/
theorem programReadsBackInsideAPage : Obligations.ProgramReadsBackInsideAPage := by
  intro m page addr v h _ hp herased
  refine ⟨fun i b hb => ?_, fun x hx => memRead_programBytes_outside h hp hx⟩
  have hi : i < v.length := (List.getElem?_eq_some_iff.1 hb).1
  have hand : memRead (programBytes m page addr 0 v) (addr + i) = memRead m (addr + i) &&& b :=
    memRead_programBytes_inside h hp hb
  have hones : memRead m (addr + i) = BitVec.allOnes 8 := herased _ (by omega) (by omega)
  rw [hand, hones, BitVec.allOnes_and]

end Sys2Proof.Machine
end

section
/-! THEOREM. The reference device keeps its two memories canonical (O59, 20_memory.md R81, R83, R84). -/

namespace Sys2Proof.Machine

theorem Dev.wf_iff {d : Dev} : d.wf = true ↔ memWf d.mem = true ∧ memWf d.sec = true := by rw [Dev.wf, Bool.and_eq_true]

theorem Dev.mutate_wf {d : Dev} {c : Cfg} {effect : Dev → Dev} (h : d.wf = true) (he : (effect d).wf = true) :
    (d.mutate c effect).wf = true := by
  rw [mutate]
  split
  · exact h
  · exact he

theorem Dev.eraseUnit_wf {d : Dev} (h : d.wf = true) (addr n : Nat) : (Dev.eraseUnit addr n d).wf = true := by
  obtain ⟨hmem, hsec⟩ := wf_iff.1 h
  exact wf_iff.2 ⟨memWf_memErase hmem _ _, hsec⟩

/-- What a closed bracket does keeps the canonical form: a program, an erase or a change of other fields. -/
theorem Dev.execute_wf {d : Dev} (h : d.wf = true) (c : Cfg) (sent : List Byte) : (d.execute c sent).wf = true := by
  obtain ⟨hmem, hsec⟩ := wf_iff.1 h
  cases sent with
  | nil => exact h
  | cons op rest =>
    rw [execute]
    cases hins : d.instruction c op with
    | none => exact h
    | some o =>
      dsimp only
      split
      · exact h
      · have hd1 : ({ d with resetArmed := o == .rsten } : Dev).wf = true := h
        cases o with
        | pp => exact mutate_wf hd1 (wf_iff.2 ⟨memWf_programBytes hmem _ _ _ _, hsec⟩)
        | se | be32 | be64 => exact mutate_wf hd1 (eraseUnit_wf hd1 _ _)
        | ce => exact mutate_wf hd1 (wf_iff.2 ⟨memWf_nil, hsec⟩)
        | secProg =>
          dsimp only
          split
          · exact hd1
          · exact mutate_wf hd1 (wf_iff.2 ⟨hmem, memWf_programBytes hsec _ _ _ _⟩)
        | secErase =>
          dsimp only
          split
          · exact hd1
          · exact mutate_wf hd1 (wf_iff.2 ⟨hmem, memWf_memErase hsec _ _⟩)
        | wrsr1 | wrsr2 | wrsr3 => exact mutate_wf hd1 hd1
        | rst =>
          dsimp only
          split <;> exact h
        | _ => exact h

/-- A transfer moves no memory: it only lengthens the bracket and counts status reads. -/
theorem Dev.answer_transfer_wf {d : Dev} (h : d.wf = true) (c : Cfg) (tx : Byte) (w : Bool) :
    (d.answer c (.transfer tx w)).2.wf = true := by
  rw [answer]
  split
  · exact h
  · dsimp only
    split
    · split <;> exact h
    · exact h

/-- Settles O59: only the end of a bracket touches a memory. -/
theorem deviceKeepsCanonicalMemory : Obligations.DeviceKeepsCanonicalMemory := by
  intro d c k h
  cases k with
  | selectHigh => exact Dev.execute_wf h c _
  | transfer tx w => exact Dev.answer_transfer_wf h c tx w
  | selectLow | configure | autoPoll => exact h

end Sys2Proof.Machine
end

section
/-! THEOREM. Address bytes go out most significant first (O17, 20_memory.md R67, 30_encoding.md R97). -/

namespace Sys2Proof.Machine

@[simp] theorem addressBytes_length (n : Nat) (a : Word) : (addressBytes n a).length = n := by
  induction n with
  | zero => rfl
  | succ n ih => rw [addressBytes, List.length_cons, ih]

/-- Byte `i` of an address of `n` bytes is its bits from `8 * (n - i - 1)` on. -/
theorem addressBytes_getElem? {n i : Nat} (h : i < n) (a : Word) :
    (addressBytes n a)[i]? = some (a.extractLsb' (8 * (n - i - 1)) 8) := by
  induction n generalizing i with
  | zero => exact absurd h (Nat.not_lt_zero i)
  | succ n ih =>
    rw [addressBytes]
    cases i with
    | zero => rfl
    | succ i => rw [List.getElem?_cons_succ, ih (by omega), Nat.add_sub_add_right]

/-- Settles O17: the second address starts where the `n` bytes of the first end. -/
theorem addressBytesMostSignificantFirst : Obligations.AddressBytesMostSignificantFirst := by
  refine ⟨fun c a4b a a2 => ⟨addressBytes_length _ a, ?_, fun i hi => ⟨addressBytes_getElem? hi a, ?_, ?_⟩⟩, ⟨rfl, rfl⟩,
    fun _ _ _ _ => ⟨rfl, rfl⟩⟩
  · rw [addrPhaseBytes, List.length_append, addressBytes_length, addressBytes_length, Nat.two_mul]
  · rw [addrPhaseBytes, List.getElem?_append_left (by simpa using hi), addressBytes_getElem? hi]
  · rw [addrPhaseBytes, List.getElem?_append_right (by simp), addressBytes_length, Nat.add_sub_cancel_left,
      addressBytes_getElem? hi]

end Sys2Proof.Machine
end

section
/-! THEOREMS. Command codes and their refusal (O1, O2, O3, 30_encoding.md R91, R96, R101). -/

namespace Sys2Proof.Machine

theorem decodeCode_encode (i : Instr) : decodeCode (encode i) = .ok i := by
  cases i <;> rfl

/-- Settles O1: each byte is the code of its command. -/
theorem codesDecodeToTheirCommands : Obligations.CodesDecodeToTheirCommands :=
  ⟨decodeCode_encode .writeEnable, decodeCode_encode .readDtr, decodeCode_encode .pageProgram, decodeCode_encode .secRead,
    decodeCode_encode .softReset, decodeCode_encode .checksumCalc, decodeCode_encode .pbLoad, decodeCode_encode .write⟩

/-- Settles O2: the table read both ways. -/
theorem decodeAndEncodeAgree : Obligations.DecodeAndEncodeAgree := by
  refine ⟨fun i rest => ?_, fun _ _ => decodeCode_ok⟩
  rw [decode, decodeCode_encode]
  rfl

/-- With RUN = 0 a code that no command has is refused (30_encoding.md R101). -/
theorem writeCmd_undefined {code : Byte} {s : State} (hr : s.run = false) (h : ∀ i, encode i ≠ code) :
    writeCmd code s = .next (rejectCode code s) := by
  cases hd : decodeCode code with
  | ok i => exact absurd (decodeCode_ok hd).symm (h i)
  | error e => simp [writeCmd, hr, decode, hd, Except.map]

/-- No command's code is 0x00 or in the lock group's family 6 (30_encoding.md R101, 47_checksum_pagebuffer.md R284). -/
theorem encode_family (i : Instr) : encode i ≠ 0x00#8 ∧ (encode i).toNat / 16 ≠ 6 := by
  cases i <;> decide

/-- Settles O3: the write is `rejectCode`, and no command's code is 0x00 or of the lock group's family. -/
theorem undefinedCodesAreRefused : Obligations.UndefinedCodesAreRefused := by
  refine ⟨fun code s hr h => writeCmd_undefined hr h, fun code i hcode hi => ?_⟩
  obtain ⟨hzero, hlock⟩ := encode_family i
  subst hi
  rcases hcode with h | ⟨hlow, hhigh⟩
  · exact hzero h
  · exact hlock (by omega)

end Sys2Proof.Machine
end

section
/-! THEOREMS. The phase descriptor word (O4, O5, 30_encoding.md R93, R94): its fields, the descriptor they make, and the
checks on it. -/

namespace Sys2Proof.Machine

/-! ## The codes of the fields, and the descriptor of a word -/

/-- The lines that bits 1:0 name; the reserved value 3, which check 2 refuses, reads as four. -/
def linesOfCode (c : BitVec 2) : Lines := if c = 0#2 then .l1 else if c = 1#2 then .l2 else .l4

/-- The rate that bit 2 names. -/
def rateOfBit (b : Bool) : Rate := if b then .dtr else .sdr

/-- The direction that bit 3 names. -/
def dirOfBit (b : Bool) : Dir := if b then .fromChip else .toChip

/-- The dummy preset that bits 5:4 name. -/
def dummyOfCode (c : BitVec 2) : Dummy := if c = 0#2 then .none else if c = 1#2 then .dp1 else if c = 2#2 then .dp2 else .dp3

/-- The descriptor whose fields stand in a word (30_encoding.md R93): what `decodePDFields` answers where it decodes. -/
def pdOfWord (w : BitVec 16) : PD where
  lines := linesOfCode (w.extractLsb' 0 2)
  rate := rateOfBit (w.getLsbD 2)
  dir := if w.extractLsb' 0 2 = 0#2 then .toChip else dirOfBit (w.getLsbD 3)
  dummy := dummyOfCode (w.extractLsb' 4 2)
  actions := { wait := w.getLsbD 6, discard := w.getLsbD 7, rsucc := w.getLsbD 8, modeOff := w.getLsbD 9,
               capture := w.getLsbD 10 }

@[simp] theorem linesOfCode_code (l : Lines) : linesOfCode l.code = l := by cases l <;> rfl

@[simp] theorem dummyOfCode_code (d : Dummy) : dummyOfCode d.code = d := by cases d <;> rfl

theorem code_linesOfCode : ∀ {c : BitVec 2}, c ≠ 3#2 → (linesOfCode c).code = c := by decide

@[simp] theorem code_rateOfBit (b : Bool) : (rateOfBit b).code = BitVec.ofBool b := by cases b <;> rfl

@[simp] theorem code_dirOfBit (b : Bool) : (dirOfBit b).code = BitVec.ofBool b := by cases b <;> rfl

@[simp] theorem code_dummyOfCode : ∀ c : BitVec 2, (dummyOfCode c).code = c := by decide

theorem rateCode_injective : Function.Injective Rate.code
  | .sdr, .sdr, _ | .dtr, .dtr, _ => rfl

theorem rateOfBit_eq_dtr (b : Bool) : rateOfBit b = .dtr ↔ b = true := by cases b <;> decide

theorem dirCode_injective : Function.Injective Dir.code
  | .toChip, .toChip, _ | .fromChip, .fromChip, _ => rfl

theorem linesCode_ne_reserved (l : Lines) : l.code ≠ 3#2 := by cases l <;> decide

theorem linesCode_eq_zero (l : Lines) : l.code = 0#2 ↔ l = .l1 := by cases l <;> decide

theorem dummyOfCode_eq_none : ∀ c : BitVec 2, dummyOfCode c = .none ↔ c = 0#2 := by decide

/-! ## Bits and fields of a word -/

theorem ofBool_getLsbD {n : Nat} (w : BitVec n) (k : Nat) : BitVec.ofBool (w.getLsbD k) = w.extractLsb' k 1 := by
  apply BitVec.eq_of_getLsbD_eq
  intro i hi
  obtain rfl := Nat.lt_one_iff.1 hi
  simp

/-- Two neighbouring bits of a word are its field of two bits. -/
theorem extractLsb'_two {n : Nat} (w : BitVec n) (k : Nat) :
    w.extractLsb' k 2 = BitVec.ofBool (w.getLsbD (k + 1)) ++ BitVec.ofBool (w.getLsbD k) := by
  rw [ofBool_getLsbD, ofBool_getLsbD, BitVec.extractLsb'_append_extractLsb'_eq_extractLsb' rfl]

theorem append_inj {n m : Nat} {x x' : BitVec n} {y y' : BitVec m} (h : x ++ y = x' ++ y') : x = x' ∧ y = y' := by
  have hleft := congrArg (BitVec.extractLsb' m n) h
  have hright := congrArg (BitVec.extractLsb' 0 m) h
  rw [BitVec.extractLsb'_append_eq_left, BitVec.extractLsb'_append_eq_left] at hleft
  rw [BitVec.extractLsb'_append_eq_right, BitVec.extractLsb'_append_eq_right] at hright
  exact ⟨hleft, hright⟩

/-- A word is its fields, in the order of 30_encoding.md R93. -/
theorem append_wordFields (w : BitVec 16) :
    w.extractLsb' 11 5 ++ BitVec.ofBool (w.getLsbD 10) ++ BitVec.ofBool (w.getLsbD 9) ++ BitVec.ofBool (w.getLsbD 8)
      ++ BitVec.ofBool (w.getLsbD 7) ++ BitVec.ofBool (w.getLsbD 6) ++ w.extractLsb' 4 2 ++ BitVec.ofBool (w.getLsbD 3)
      ++ BitVec.ofBool (w.getLsbD 2) ++ w.extractLsb' 0 2 = w := by
  simp (disch := omega) only [ofBool_getLsbD, BitVec.extractLsb'_append_extractLsb'_eq_extractLsb']
  exact BitVec.extractLsb'_eq_self

/-! ## Decoding the fields -/

/-- The dummy preset that bits 5 and 4 name, as `decodePDFields` reads them. -/
theorem dummyOfCode_bits : ∀ b5 b4 : Bool, dummyOfCode (BitVec.ofBool b5 ++ BitVec.ofBool b4) =
    if b5 then (if b4 then .dp3 else .dp2) else (if b4 then .dp1 else .none) := by decide

/-- The decoding of the fields in one equation: checks 3 and 2 of 30_encoding.md R94, then the descriptor. -/
theorem decodePDFields_eq (w : BitVec 16) : decodePDFields w =
    if w.extractLsb' 11 5 ≠ 0#5 then .error .reservedBits
    else if w.extractLsb' 0 2 = 3#2 then .error .linesReserved else .ok (pdOfWord w) := by
  simp only [decodePDFields, pdOfWord, extractLsb'_two w 0, extractLsb'_two w 4, dummyOfCode_bits]
  refine ite_congr rfl (fun _ => rfl) fun _ => ?_
  cases w.getLsbD 1 <;> cases w.getLsbD 0 <;> simp [linesOfCode, rateOfBit, dirOfBit]

/-- A word's fields decode unless a check on the word itself (2 or 3) refuses them. -/
theorem decodePDFields_ok_iff {w : BitVec 16} {pd : PD} : decodePDFields w = .ok pd ↔
    w.extractLsb' 11 5 = 0#5 ∧ w.extractLsb' 0 2 ≠ 3#2 ∧ pdOfWord w = pd := by
  rw [decodePDFields_eq]
  split_ifs with hhigh hlines
  · simp [hhigh]
  · simp [hlines]
  · simp [not_not.1 hhigh, hlines]

/-- A word decodes when its fields do and make a legal descriptor. -/
theorem decodePD_ok_iff_fields {w : BitVec 16} {pd : PD} : decodePD w = .ok pd ↔
    decodePDFields w = .ok pd ∧ pd.legal = true := by
  rw [decodePD]
  cases decodePDFields w with
  | error e => exact iff_of_false nofun nofun
  | ok pd' =>
    simp only [Except.ok.injEq, PD.legal]
    cases hf : pd'.fault? with
    | none => exact ⟨fun h => by cases h; exact ⟨rfl, by rw [hf]; rfl⟩, fun ⟨h, _⟩ => congrArg _ h⟩
    | some e => exact iff_of_false nofun fun ⟨h, hl⟩ => by simp [← h, hf] at hl

/-- What a word that decodes is, and what it decodes to. -/
theorem decodePD_ok_iff {w : BitVec 16} {pd : PD} : decodePD w = .ok pd ↔
    (w.extractLsb' 11 5 = 0#5 ∧ w.extractLsb' 0 2 ≠ 3#2 ∧ pdOfWord w = pd) ∧ pd.legal = true := by
  rw [decodePD_ok_iff_fields, decodePDFields_ok_iff]

/-! ## The checks (O4) -/

/-- The checks 1, 4 and 5 of 30_encoding.md R94 on a descriptor. -/
theorem legal_iff (pd : PD) : pd.legal = true ↔
    (pd.dummy ≠ .none → pd.rate = .dtr) ∧ ¬ (pd.actions.discard = true ∧ pd.actions.capture = true) ∧
      ¬ (pd.actions.rsucc = true ∧ pd.actions.capture = true) ∧
      (pd.dummy ≠ .none → pd.actions.rsucc = false ∧ pd.actions.capture = false) := by
  unfold PD.legal PD.fault?
  split_ifs with hrate hcapture hpreset
  · exact iff_of_false nofun fun ⟨h, _⟩ => hrate.2 (h hrate.1)
  · exact iff_of_false nofun fun ⟨_, hd, hr, _⟩ => hcapture.2.elim (hd ⟨·, hcapture.1⟩) (hr ⟨·, hcapture.1⟩)
  · exact iff_of_false nofun fun ⟨_, _, _, h⟩ => by simp [h hpreset.1] at hpreset
  · refine iff_of_true rfl ⟨fun hd => ?_, fun h => hcapture ⟨h.2, .inl h.1⟩, fun h => hcapture ⟨h.2, .inr h.1⟩, fun hd => ?_⟩
    · exact not_not.1 fun h => hrate ⟨hd, h⟩
    · simpa [hd] using hpreset

/-- The same checks on the word. -/
theorem legal_pdOfWord_iff (w : BitVec 16) : (pdOfWord w).legal = true ↔
    (w.extractLsb' 4 2 ≠ 0#2 → w.getLsbD 2 = true) ∧ ¬ (w.getLsbD 7 = true ∧ w.getLsbD 10 = true) ∧
      ¬ (w.getLsbD 8 = true ∧ w.getLsbD 10 = true) ∧
      (w.extractLsb' 4 2 ≠ 0#2 → w.getLsbD 8 = false ∧ w.getLsbD 10 = false) := by
  rw [legal_iff]
  simp only [pdOfWord, ne_eq, dummyOfCode_eq_none, rateOfBit_eq_dtr]

/-- A mask of ones in a field leaves the field. -/
theorem extractLsb'_and_of_ones {n start len : Nat} {mask : BitVec n} (h : mask.extractLsb' start len = BitVec.allOnes len)
    (w : BitVec n) : (w &&& mask).extractLsb' start len = w.extractLsb' start len := by
  rw [BitVec.extractLsb'_and, h, BitVec.and_allOnes]

/-- On one line bit 3 is not read (check 6 of 30_encoding.md R94). -/
theorem decodePD_clearDir {w : BitVec 16} (h : w.extractLsb' 0 2 = 0#2) : decodePD (w &&& 0xFFF7#16) = decodePD w := by
  have hlines : (w &&& 0xFFF7#16).extractLsb' 0 2 = w.extractLsb' 0 2 := extractLsb'_and_of_ones (by decide) w
  have hdummy : (w &&& 0xFFF7#16).extractLsb' 4 2 = w.extractLsb' 4 2 := extractLsb'_and_of_ones (by decide) w
  have hhigh : (w &&& 0xFFF7#16).extractLsb' 11 5 = w.extractLsb' 11 5 := extractLsb'_and_of_ones (by decide) w
  have hpd : pdOfWord (w &&& 0xFFF7#16) = pdOfWord w := by simp [pdOfWord, hlines, hdummy, h]
  rw [decodePD, decodePD, decodePDFields_eq, decodePDFields_eq, hhigh, hlines, hpd]

theorem decodePD_setDir {w : BitVec 16} (h : w.extractLsb' 0 2 = 0#2) : decodePD (w ||| 0x0008#16) = decodePD w := by
  have hlines : (w ||| 0x0008#16).extractLsb' 0 2 = 0#2 := by rw [BitVec.extractLsb'_or, h]; rfl
  have hclear : (w ||| 0x0008#16) &&& 0xFFF7#16 = w &&& 0xFFF7#16 := by
    rw [BitVec.and_or_distrib_right]
    exact BitVec.or_zero
  rw [← decodePD_clearDir hlines, hclear, decodePD_clearDir h]

/-- No check is about MODE_OFF. -/
theorem legal_withModeOff (pd : PD) : pd.withModeOff.legal = pd.legal := rfl

/-- Settles O4: the checks on the fields of the word, and on the descriptors built. -/
theorem phaseWordsAreLegalByTheChecks : Obligations.PhaseWordsAreLegalByTheChecks := by
  refine ⟨fun w => ?_, fun w h => ?_, fun m l r d k qpi last off => ?_, fun pd h => ?_⟩
  · have hdecodes : (∃ pd, decodePD w = .ok pd) ↔
        w.extractLsb' 11 5 = 0#5 ∧ w.extractLsb' 0 2 ≠ 3#2 ∧ (pdOfWord w).legal = true := by
      simp [decodePD_ok_iff, and_assoc]
    rw [hdecodes, legal_pdOfWord_iff]
    tauto
  · rw [decodePD_setDir h, decodePD_clearDir h]
  · exact ⟨rfl, rfl, rfl, by cases k <;> rfl, rfl, rfl, rfl⟩
  · rwa [legal_withModeOff]

/-! ## The round trip (O5) -/

/-- The fields of the word of a descriptor. -/
theorem encodePD_fields (pd : PD) :
    (encodePD pd).extractLsb' 11 5 = 0#5 ∧ (encodePD pd).getLsbD 10 = pd.actions.capture ∧
      (encodePD pd).getLsbD 9 = pd.actions.modeOff ∧ (encodePD pd).getLsbD 8 = pd.actions.rsucc ∧
      (encodePD pd).getLsbD 7 = pd.actions.discard ∧ (encodePD pd).getLsbD 6 = pd.actions.wait ∧
      (encodePD pd).extractLsb' 4 2 = pd.dummy.code ∧ dirOfBit ((encodePD pd).getLsbD 3) = pd.dir ∧
      rateOfBit ((encodePD pd).getLsbD 2) = pd.rate ∧ (encodePD pd).extractLsb' 0 2 = pd.lines.code := by
  have h := append_wordFields (encodePD pd)
  conv at h => rhs; rw [encodePD]
  obtain ⟨h, hlines⟩ := append_inj h
  obtain ⟨h, hrate⟩ := append_inj h
  obtain ⟨h, hdir⟩ := append_inj h
  obtain ⟨h, hdummy⟩ := append_inj h
  obtain ⟨h, hwait⟩ := append_inj h
  obtain ⟨h, hdiscard⟩ := append_inj h
  obtain ⟨h, hrsucc⟩ := append_inj h
  obtain ⟨h, hoff⟩ := append_inj h
  obtain ⟨hhigh, hcapture⟩ := append_inj h
  simp only [BitVec.ofBool_eq_iff_eq] at hcapture hoff hrsucc hdiscard hwait
  exact ⟨hhigh, hcapture, hoff, hrsucc, hdiscard, hwait, hdummy, dirCode_injective (by rw [code_dirOfBit, hdir]),
    rateCode_injective (by rw [code_rateOfBit, hrate]), hlines⟩

/-- Reading the word of a descriptor back: only the direction on one line is lost. -/
theorem pdOfWord_encodePD (pd : PD) : pdOfWord (encodePD pd) = pd.canonical := by
  obtain ⟨-, hcapture, hoff, hrsucc, hdiscard, hwait, hdummy, hdir, hrate, hlines⟩ := encodePD_fields pd
  simp only [pdOfWord, PD.canonical, hcapture, hoff, hrsucc, hdiscard, hwait, hdummy, hdir, hrate, hlines, linesOfCode_code,
    dummyOfCode_code, linesCode_eq_zero]
  split <;> rfl

/-- A descriptor read from a word whose fields all count has that word. -/
theorem encodePD_pdOfWord {w : BitVec 16} (hhigh : w.extractLsb' 11 5 = 0#5) (hlines : w.extractLsb' 0 2 ≠ 3#2)
    (hdir : w.extractLsb' 0 2 = 0#2 → w.getLsbD 3 = false) : encodePD (pdOfWord w) = w := by
  have hd : (pdOfWord w).dir.code = BitVec.ofBool (w.getLsbD 3) := by
    rw [pdOfWord]
    split
    · next h => rw [hdir h]; rfl
    · exact code_dirOfBit _
  rw [encodePD, hd]
  simp only [pdOfWord, code_linesOfCode hlines, code_rateOfBit, code_dummyOfCode]
  rw [← hhigh]
  exact append_wordFields w

/-- No check is about the direction. -/
theorem legal_canonical (pd : PD) : pd.canonical.legal = pd.legal := by
  rw [PD.canonical]
  split <;> rfl

/-- Settles O5: a word is its fields, and those of a descriptor's word are the descriptor's. -/
theorem phaseWordRoundTrip : Obligations.PhaseWordRoundTrip := by
  refine ⟨fun pd h => ?_, fun w pd h => ?_⟩
  · obtain ⟨hhigh, -, -, -, -, -, -, -, -, hlines⟩ := encodePD_fields pd
    exact decodePD_ok_iff.2 ⟨⟨hhigh, hlines ▸ linesCode_ne_reserved pd.lines, pdOfWord_encodePD pd⟩, legal_canonical pd ▸ h⟩
  · split
    · next hone =>
      obtain ⟨⟨hhigh, hlines, rfl⟩, -⟩ := decodePD_ok_iff.1 ((decodePD_clearDir hone).trans h)
      exact encodePD_pdOfWord hhigh hlines fun _ => by simp
    · next hmore =>
      obtain ⟨⟨hhigh, hlines, rfl⟩, -⟩ := decodePD_ok_iff.1 h
      exact encodePD_pdOfWord hhigh hlines fun hone => absurd hone hmore

end Sys2Proof.Machine
end

section
/-! THEOREM. The mode flags on the wire: A4B selects the opcode, QPI_EN widens a phase of one line (O18, 30_encoding.md R99,
R100, R103). -/

namespace Sys2Proof.Machine

theorem opcode_of_listed {c : Cfg} {o : Opc} {b : Byte} (h : c.opc.lookup o = some b) : c.opcode false o = b := by
  simp [Cfg.opcode, h]

theorem opcode_of_default {c : Cfg} {o : Opc} {b : Byte} (h : c.opc.lookup o = none) (hd : defaultOpcodes.lookup o = some b) :
    c.opcode false o = b := by
  simp [Cfg.opcode, h, defaultOpcode, hd]

/-- A four-byte form the configuration gives is used whether or not it lists the three-byte form. -/
theorem opcode_wide_of_listed {c : Cfg} {o : Opc} {b : Byte} (h : c.opc4.lookup o = some b) : c.opcode true o = b := by
  simp [Cfg.opcode, h]

theorem opcode_wide_of_unlisted {c : Cfg} {o : Opc} (h : c.opc4.lookup o = none) : c.opcode true o = c.opcode false o := by
  simp [Cfg.opcode, h]

theorem eff_eq (l : Lines) (q : Bool) : eff l q = if q = true ∧ l = .l1 then .l4 else l := by
  cases l <;> cases q <;> rfl

/-- Settles O18: `Cfg.opcode` flag by flag; the descriptors carry their lines through `eff` and their rate as it is. -/
theorem modeFlagsChangeTheWire : Obligations.ModeFlagsChangeTheWire :=
  ⟨fun _ _ _ h => ⟨opcode_of_listed h, fun h4 => (opcode_wide_of_unlisted h4).trans (opcode_of_listed h),
      fun _ => opcode_wide_of_listed⟩,
    fun _ _ _ h hd => ⟨opcode_of_default h hd, fun h4 => (opcode_wide_of_unlisted h4).trans (opcode_of_default h hd)⟩,
    eff_eq, fun _ _ _ _ _ _ _ => ⟨rfl, rfl, rfl, rfl, rfl, rfl, rfl, rfl, rfl, rfl, rfl, rfl⟩⟩

end Sys2Proof.Machine
end

section
/-! THEOREMS. The phase encoder, one call at a time (O19, O20, O21, O23, 40_phase_encoder.md R126 to R139): which call the
item SEQ is at makes next, and what each answer to a `configure` and to a `transfer` does to it. -/

namespace Sys2Proof.Machine

/-! ## The next call, and its answer -/

theorem ensuring_eq (s : State) (want : Mode) (k : Call) :
    ensuring s want k = if want = s.tm then k else .configure want := by
  simp only [ensuring, eq_comm]

theorem pendingCall_cons {s : State} {op : Op} {rest : List Op} (h : s.todo = op :: rest) :
    pendingCall s = opCall s op := by
  simp only [pendingCall, h]

theorem answerCall_cons {s : State} {op : Op} {rest : List Op} (h : s.todo = op :: rest) (c : Call) (a : Answer) :
    answerCall c a s = answerHead op rest c a (s.logged c a) := by
  simp only [answerCall, h, State.logged]

theorem opCall_preset (s : State) (pos : Pos) (m : Mode) (ms : List Mode) :
    opCall s (.preset pos (m :: ms)) = some (ensuring s m.norm (.transfer s.cfg.dummyByte true)) := rfl

/-- A failure at the head item abandons its bracket (40_phase_encoder.md R139). -/
theorem xferFail_logged (op : Op) (s : State) (c : Call) (a : Answer) :
    xferFail op (s.logged c a) =
      { s.logged c a with todo := [.abort (failKind (opPos op).st) s.pos] } := rfl

/-! ## `configure` (O19) -/

theorem norm_eq (m : Mode) : m.norm = if m.lines = .l1 then { m with dir := .toChip } else m := by
  obtain ⟨l, r, d⟩ := m
  cases l <;> rfl

section
variable {s : State} {op : Op} {rest : List Op} {a : Answer}

theorem answerCall_configure_ok (h : s.todo = op :: rest) (want : Mode) (ha : a.call = .ok) :
    answerCall (.configure want) a s = settle (op :: rest) { s.logged (.configure want) a with tm := want } := by
  rw [answerCall_cons h]
  simp only [answerHead, ha]

theorem answerCall_configure_error (h : s.todo = op :: rest) (want : Mode) (ha : a.call = .error) :
    answerCall (.configure want) a s =
      { s.logged (.configure want) a with todo := [.abort (failKind (opPos op).st) s.pos] } := by
  rw [answerCall_cons h, ← xferFail_logged]
  simp only [answerHead, ha]

/-- The mode latched, the phase that asked for it is still the one SEQ is at. -/
theorem answerCall_configure_ok_phase (h : s.todo = op :: rest) (want : Mode) (ha : a.call = .ok) (hd : due op = true)
    (hp : (opPhase s op).isSome = true) :
    answerCall (.configure want) a s = { s.logged (.configure want) a with tm := want } := by
  have hp' : (opPhase { s.logged (.configure want) a with tm := want } op).isSome = true := by
    cases op <;> exact hp
  rw [answerCall_configure_ok h want ha, settle_due hp' hd, ← h]
  rfl

end

/-- Settles O19: `opCall` asks for the mode first, and both answers to `configure` are cases of `answerHead`. -/
theorem ensureModeConfiguresOnlyOnChange : Obligations.EnsureModeConfiguresOnlyOnChange := by
  refine ⟨norm_eq, fun s op rest pd b h hp => ?_, fun s pos m ms rest h => ?_,
    fun s pos rest => ⟨fun ht => ?_, fun ht => ?_⟩, fun s op rest want a h hd hp => ⟨fun ha => ?_, fun ha => ?_⟩,
    fun s pos rest want a h => ?_⟩
  · rw [pendingCall_cons h, opCall_phase hp, ensuring_eq]
    rfl
  · rw [pendingCall_cons h, opCall_preset, ensuring_eq]
  · rw [settle, if_pos ht]
  · rw [settle_modeOff pos rest ht]
    rfl
  · rw [answerCall_configure_ok_phase h want ha hd hp, State.logged, replyTo, ha]
  · rw [answerCall_configure_error h want ha, State.logged, replyTo, ha]
  · have head : ∃ op, s.todo = op :: rest ∧ opPos op = pos := by
      rcases h with ⟨m, ms, h⟩ | h
      · exact ⟨_, h, rfl⟩
      · exact ⟨_, h, rfl⟩
    obtain ⟨op, hop, rfl⟩ := head
    refine ⟨fun ha => ?_, fun ha => ?_⟩
    · rw [answerCall_configure_ok hop want ha, settle_tm]
    · rw [answerCall_configure_error hop want ha]
      exact ⟨rfl, rfl⟩

/-! ## CAPTURE (O20) -/

theorem rxPush_rxCount (b : Byte) (s : State) : (rxPush b s).rxCount = s.rxCount + 1 := by
  rw [State.rxCount, rxPush_rx, List.length_append, BitVec.ofNat_add]
  rfl

/-- Without CAPTURE an accepted transfer gives SEQ a status byte, or takes one from the TX FIFO, or does nothing. -/
theorem accept_uncaptured {acts : Actions} (h : acts.capture = false) (op : Op) (a : XferAns) (s : State) :
    (accept op acts a s).rx = s.rx ∧ (accept op acts a s).cksum = s.cksum := by
  unfold accept
  split
  · exact ⟨rfl, rfl⟩
  · exact ⟨rfl, rfl⟩
  · rw [if_neg (by simp [h])]
    exact ⟨rfl, rfl⟩
  · exact ⟨rfl, rfl⟩

/-- Settles O20: `rxPush` is the one writer of RX and CKSUM in `accept`, and stands under CAPTURE. -/
theorem captureFillsRxAndChecksum : Obligations.CaptureFillsRxAndChecksum :=
  ⟨fun b s => ⟨rfl, rxPush_rxCount b s⟩, fun _ _ _ _ _ _ h => if_pos h, fun op _ a s h => accept_uncaptured h op a s⟩

/-! ## Transmitted data (O21) -/

section
variable {s : State} {m : Width} {i n : Nat} {src : TxSrc} {b : Byte}

theorem opPhase_tx (h : txByte s src = some b) :
    opPhase s (.tx m i n src) = some (pdTx m s.smp.qpi (i + 1 == n), b) := by
  simp only [opPhase, h, Option.map_some]

/-- A byte that may be sent again and is not accepted leaves SEQ where it is (40_phase_encoder.md R136). -/
theorem answerTransfer_declined {op : Op} {pd : PD} (h : opPhase s op = some (pd, b)) (hr : pd.actions.rsucc = true)
    (rest : List Op) : answerTransfer op rest .notAccepted s = s := by
  unfold answerTransfer
  split
  · cases h
  · simp only [h, phaseRet, hr, if_true]

theorem accept_tx (acts : Actions) (hc : acts.capture = false) (r : Byte) :
    accept (.tx m i n src) acts (.done r) s =
      { s with
        txFifo := if src = .fifo then s.txFifo.tail else s.txFifo
        txUsed := if src = .fifo then s.txUsed + 1 else s.txUsed } := by
  cases src with
  | fifo => rfl
  | arg => simp [accept, hc]

end

theorem settle_tx (m : Width) {i n : Nat} (h : i < n) (src : TxSrc) (rest : List Op) (s : State) :
    settle (.tx m i n src :: rest) s = { s with todo := .tx m i n src :: rest } := by
  rw [settle, if_pos h]

/-- Settles O21: PD_TX reports success, so NotAccepted is its retry, and its MODE_OFF waits for the last byte. -/
theorem refusedDataByteIsSentAgain : Obligations.RefusedDataByteIsSentAgain := by
  intro s m i n src rest b a h hi hb htm k e
  have hp : opPhase s (.tx m i n src) = some (pdTx m s.smp.qpi (i + 1 == n), b) := opPhase_tx hb
  have hp' : opPhase (s.logged k a) (.tx m i n src) = _ := (opPhase_logged s k a _).trans hp
  have ha : answerCall k a s = answerTransfer (.tx m i n src) rest a.xfer (s.logged k a) := answerCall_cons h k a
  refine ⟨?_, fun hx => ?_, fun r hx hlast => ?_⟩
  · rw [pendingCall_cons h, opCall_phase hp, ensuring_eq, if_pos htm.symm]
    rfl
  · rw [ha, hx, answerTransfer_declined hp' rfl]
    rfl
  · have hmid : (i + 1 == n) = false := beq_false_of_ne (by omega)
    have hoff : (pdTx m s.smp.qpi (i + 1 == n)).actions.modeOff = false := by rw [hmid]; rfl
    rw [ha, hx, answerTransfer_done hp', accept_tx _ rfl, hoff]
    exact settle_tx m hlast src rest _

/-! ## Dummy presets (O23) -/

section
variable {s : State} {pos : Pos} {m : Mode} {ms : List Mode} {rest : List Op}

theorem pendingCall_preset (h : s.todo = .preset pos (m :: ms) :: rest) (htm : s.tm = m.norm) :
    pendingCall s = some (.transfer s.cfg.dummyByte true) := by
  rw [pendingCall_cons h, opCall_preset, ensuring_eq, if_pos htm.symm]

theorem answerCall_preset_done (h : s.todo = .preset pos (m :: ms) :: rest) {a : Answer} {r : Byte}
    (ha : a.xfer = .done r) (t : Byte) (w : Bool) :
    answerCall (.transfer t w) a s = settle (.preset pos ms :: rest) (s.logged (.transfer t w) a) := by
  rw [answerCall_cons h]
  simp only [answerHead, answerTransfer, ha]

/-- Any other answer abandons the bracket; the transfers of a preset stand in DMY. -/
theorem answerCall_preset_failed (h : s.todo = .preset pos (m :: ms) :: rest) (hpos : pos.st = .dmy) {a : Answer}
    (ha : ∀ r, a.xfer ≠ .done r) (t : Byte) (w : Bool) :
    answerCall (.transfer t w) a s =
      { s.logged (.transfer t w) a with todo := [.abort .transportCommandFailed s.pos] } := by
  have hf : answerCall (.transfer t w) a s = xferFail (.preset pos (m :: ms)) (s.logged (.transfer t w) a) := by
    rw [answerCall_cons h]
    cases hx : a.xfer with
    | done r => exact absurd hx (ha r)
    | notAccepted | error => simp only [answerHead, answerTransfer, hx]
  rw [hf, xferFail_logged, opPos, hpos]
  rfl

end

/-- Settles O23: the answer to one transfer, and then a list that is at the preset's next transfer or past it. -/
theorem presetTransfersAreDiscarded : Obligations.PresetTransfersAreDiscarded := by
  refine ⟨fun s pos m m2 ms rest a h hpos htm => ?_, fun s pos m rest a h hpos htm => ?_, rfl, rfl, rfl⟩
  all_goals exact ⟨pendingCall_preset h htm, fun b ha => answerCall_preset_done h ha _ _,
    fun ha => answerCall_preset_failed h hpos ha _ _⟩

end Sys2Proof.Machine
end

section
/-! SUPPORT and THEOREM. XP's answers may come in pieces (O54, 40_phase_encoder.md R120, R125, 60_exceptions.md
R326). SEQ neither reads nor writes the registers and queues of the agents outside while a command runs, so a run is the
same whatever stands there; the answers left over are the one exception. -/

namespace Sys2Proof.Machine

/-- `s` with the side of HOST and XP as in `u`: what a running command neither reads nor writes. -/
def State.outside (s u : State) : State :=
  { s with
    addr := u.addr, addr2 := u.addr2, len := u.len, arg := u.arg, cmd := u.cmd, rxRead := u.rxRead, env := u.env, xp := u.xp
    busOut := u.busOut }

section
variable (s u : State)

theorem ite_outside (p : Prop) [Decidable p] (t : State) :
    (if p then s else t).outside u = if p then s.outside u else t.outside u := apply_ite (fun x : State => x.outside u) p s t

theorem finish_outside (r : Result) : finish r (s.outside u) = (finish r s).outside u := by
  simp only [finish, dropTx, ite_outside]
  rfl

theorem pollLoop_outside (p : PollSpec) (ops : List Op) :
    pollLoop p ops (s.outside u) = (pollLoop p ops s).outside u := by
  simp only [pollLoop_eq, ite_outside, finish_outside]
  rfl

theorem setFlag_outside (f : Flag) (v : Bool) : setFlag f v (s.outside u) = (setFlag f v s).outside u := by
  cases f <;> rfl

theorem settle_outside (ops : List Op) : settle ops (s.outside u) = (settle ops s).outside u := by
  induction ops generalizing s with
  | nil => rfl
  | cons op rest ih =>
    cases op with
    | select | opcode _ _ | phase _ _ _ | rxi | deselect | abort _ _ | autoPoll _ => rfl
    | commit f v => rw [settle, settle, setFlag_outside, ih]
    | finish r => exact finish_outside s u r
    | loadWrite => exact ih { s with off := s.smp.addr, rem := s.smp.len, srci := 0 }
    | advance z => exact ih (advanceChunk z s)
    | rx _ _ _ | tx _ _ _ _ | preset _ _ | modeOff _ | chunk =>
      rw [settle, settle, ite_outside, ih]
      rfl
    | qeTest =>
      rw [settle, settle, ite_outside, ih, raiseError_closed, finish_outside]
      rfl
    | pollTest p =>
      have h := ih { s with lastSr := s.sr, n := s.n + 1 }
      have h' := pollLoop_outside { s with lastSr := s.sr, n := s.n + 1 } u p rest
      rw [settle, settle, ite_outside, ← h, ← h']
      rfl
    | poll p =>
      have hcfg : (s.outside u).cfg = s.cfg := rfl
      simp only [settle, hcfg]
      split
      · exact pollLoop_outside { s with n := 0 } u p rest
      · rfl

theorem opPhase_outside (op : Op) : opPhase (s.outside u) op = opPhase s op := by
  cases op <;> rfl

theorem opCall_outside (op : Op) : opCall (s.outside u) op = opCall s op := by
  cases op with
  | preset pos modes => cases modes <;> rfl
  | _ => rfl

theorem pendingCall_outside : pendingCall (s.outside u) = pendingCall s := by
  cases h : s.todo with
  | nil => simp only [pendingCall, State.outside, h]
  | cons op rest => rw [pendingCall_cons h, pendingCall_cons (s := s.outside u) h, opCall_outside]

theorem accept_outside (op : Op) (acts : Actions) (a : XferAns) :
    accept op acts a (s.outside u) = (accept op acts a s).outside u := by
  unfold accept
  split
  · rfl
  · rfl
  · rw [ite_outside]
    rfl
  · rfl

theorem answerTransfer_outside (op : Op) (rest : List Op) (a : XferAns) :
    answerTransfer op rest a (s.outside u) = (answerTransfer op rest a s).outside u := by
  unfold answerTransfer
  split
  · split
    · exact settle_outside ..
    · rfl
  · rw [opPhase_outside]
    split
    · rfl
    · split
      · rfl
      · rfl
      · rw [accept_outside, settle_outside]

theorem answerHead_outside (op : Op) (rest : List Op) (c : Call) (a : Answer) :
    answerHead op rest c a (s.outside u) = (answerHead op rest c a s).outside u := by
  cases c with
  | selectLow =>
    simp only [answerHead]
    split
    · exact settle_outside ..
    · exact finish_outside ..
  | selectHigh =>
    simp only [answerHead]
    split
    · exact finish_outside ..
    · split
      · exact settle_outside ..
      · exact finish_outside ..
  | configure m =>
    simp only [answerHead]
    split
    · exact settle_outside { s with tm := m } u _
    · rfl
  | transfer t w => exact answerTransfer_outside ..
  | autoPoll o l k t b =>
    simp only [answerHead]
    split
    · split
      · exact settle_outside { s with lastSr := _ } u _
      · exact finish_outside { s with lastSr := _ } u _
      · exact finish_outside ..
    · rfl

theorem answerCall_outside (c : Call) (a : Answer) : answerCall c a (s.outside u) = (answerCall c a s).outside u := by
  cases h : s.todo with
  | nil => simp only [answerCall, State.outside, h]
  | cons op rest =>
    rw [answerCall_cons h, answerCall_cons (s := s.outside u) h]
    exact answerHead_outside (s.logged c a) u ..

end

/-- A run commutes with any change outside, but for the answers: those left over replace what stood there. -/
theorem drive_outside (as : List Answer) (s u : State) :
    drive as (s.outside u) = (drive as s).outside { u with xp := (drive as s).xp } := by
  induction as generalizing s with
  | nil => rfl
  | cons a as ih =>
    cases h : pendingCall s with
    | none =>
      rw [drive_stuck h, drive_stuck ((pendingCall_outside s u).trans h)]
      rfl
    | some c => rw [drive_call h, drive_call ((pendingCall_outside s u).trans h), answerCall_outside, ih]

/-- The answers a run is given are its argument: what `xp` held before does not matter. -/
theorem drive_xp (as x : List Answer) (s : State) : drive as { s with xp := x } = drive as s := by
  have h : drive as { s with xp := x } = (drive as s).outside { s with xp := (drive as s).xp } :=
    drive_outside as s { s with xp := x }
  rw [h]
  simp only [State.outside, ← drive_addr as s, ← drive_addr2 as s, ← drive_len as s, ← drive_arg as s,
    ← drive_cmd as s, ← drive_rxRead as s, ← drive_env as s, ← drive_busOut as s]

/-- Settles O54: SEQ is not stuck before the first part is used up, and the answers come to it as an argument. -/
theorem answersMayComeInPieces : Obligations.AnswersMayComeInPieces := by
  intro as bs s h
  induction as generalizing s with
  | nil => exact (drive_xp bs [] s).symm
  | cons a as ih =>
    cases hc : pendingCall s with
    | none =>
      rw [drive_stuck hc] at h
      cases h
    | some c =>
      rw [drive_call hc] at h
      rw [List.cons_append, drive_call hc, drive_call hc, ih _ h]

end Sys2Proof.Machine
end

section
/-! THEOREMS. The end of a command (O15) and the working copies it runs on (O16, 41_sequencer_poller.md R153, R163): a run
does not look at the operand registers nor at the mode flags. -/

namespace Sys2Proof.Machine

/-- Settles O15: `finish` writes RESULT, RUN, DONE and what is left to do, and `dropTx` only the FIFO. -/
theorem finishEndsTheCommand : Obligations.FinishEndsTheCommand := by
  intro r s
  refine ⟨by simp, by simp, by simp, ?_, by simp, ?_, by simp⟩
  · simp only [State.pos, finish_todo]
  · simp only [State.rxCount, finish_rx]

/-! ## The mode flags -/

/-- `t` is `s` but for the mode flags. -/
def ButFlags (s t : State) : Prop := ∃ x y z, t = { s with a4b := x, qpiEn := y, dtrEn := z }

/-- What `f` does to a state does not depend on the mode flags, though it may write them. -/
def IgnoresFlags (f : State → State) : Prop := ∀ s t, ButFlags s t → ButFlags (f s) (f t)

theorem ignoresFlags_setFlag (f : Flag) (v : Bool) : IgnoresFlags (setFlag f v) := by
  rintro s _ ⟨x, y, z, rfl⟩
  cases f with
  | a4b => exact ⟨v, y, z, rfl⟩
  | qpiEn => exact ⟨x, v, z, rfl⟩
  | dtrEn => exact ⟨x, y, v, rfl⟩

theorem ignoresFlags_finish (r : Result) : IgnoresFlags (finish r) := by
  rintro s _ ⟨x, y, z, rfl⟩
  refine ⟨x, y, z, ?_⟩
  unfold finish dropTx
  dsimp only
  split
  · split <;> rfl
  · rfl

theorem ignoresFlags_pollLoop (p : PollSpec) (ops : List Op) : IgnoresFlags (pollLoop p ops) := by
  rintro s t h
  have hf := ignoresFlags_finish p.err s t h
  obtain ⟨x, y, z, rfl⟩ := h
  simp only [pollLoop_eq]
  split
  · exact hf
  · exact ⟨x, y, z, rfl⟩

theorem ignoresFlags_settle (ops : List Op) : IgnoresFlags (settle ops) := by
  induction ops with
  | nil => rintro s _ ⟨x, y, z, rfl⟩; exact ⟨x, y, z, rfl⟩
  | cons op rest ih =>
    intro s t h
    have hrest := ih s t h
    cases op with
    | select | opcode _ _ | phase _ _ _ | rxi | deselect | abort _ _ | autoPoll _ =>
      obtain ⟨x, y, z, rfl⟩ := h
      exact ⟨x, y, z, rfl⟩
    | commit f v => exact ih _ _ (ignoresFlags_setFlag f v s t h)
    | finish r => exact ignoresFlags_finish r s t h
    | loadWrite =>
      obtain ⟨x, y, z, rfl⟩ := h
      exact ih _ _ ⟨x, y, z, rfl⟩
    | advance size =>
      obtain ⟨x, y, z, rfl⟩ := h
      exact ih _ _ ⟨x, y, z, rfl⟩
    | rx _ _ _ | tx _ _ _ _ =>
      obtain ⟨x, y, z, rfl⟩ := h
      simp only [settle]
      split
      · exact ⟨x, y, z, rfl⟩
      · exact hrest
    | preset _ _ | modeOff _ | chunk =>
      obtain ⟨x, y, z, rfl⟩ := h
      simp only [settle]
      split
      · exact hrest
      · exact ⟨x, y, z, rfl⟩
    | qeTest =>
      have hf := ignoresFlags_finish .transportCommandFailed s t h
      obtain ⟨x, y, z, rfl⟩ := h
      simp only [settle, raiseError_closed]
      split
      · exact hrest
      · exact hf
    | pollTest p =>
      obtain ⟨x, y, z, rfl⟩ := h
      simp only [settle]
      split
      · exact ih _ _ ⟨x, y, z, rfl⟩
      · exact ignoresFlags_pollLoop p rest _ _ ⟨x, y, z, rfl⟩
    | poll p =>
      obtain ⟨x, y, z, rfl⟩ := h
      simp only [settle]
      split
      · exact ignoresFlags_pollLoop p rest _ _ ⟨x, y, z, rfl⟩
      · exact ⟨x, y, z, rfl⟩

theorem opPhase_butFlags {s t : State} (h : ButFlags s t) (op : Op) : opPhase t op = opPhase s op := by
  obtain ⟨x, y, z, rfl⟩ := h
  cases op <;> rfl

theorem opCall_butFlags {s t : State} (h : ButFlags s t) (op : Op) : opCall t op = opCall s op := by
  obtain ⟨x, y, z, rfl⟩ := h
  cases op with
  | preset pos modes => cases modes <;> rfl
  | _ => rfl

theorem ButFlags.todo {s t : State} (h : ButFlags s t) : t.todo = s.todo := by
  obtain ⟨x, y, z, rfl⟩ := h
  rfl

theorem pendingCall_butFlags {s t : State} (h : ButFlags s t) : pendingCall t = pendingCall s := by
  cases ht : s.todo with
  | nil => simp only [pendingCall, h.todo, ht]
  | cons op rest => rw [pendingCall_cons ht, pendingCall_cons (h.todo.trans ht), opCall_butFlags h]

theorem ignoresFlags_accept (op : Op) (acts : Actions) (a : XferAns) : IgnoresFlags (accept op acts a) := by
  rintro s _ ⟨x, y, z, rfl⟩
  refine ⟨x, y, z, ?_⟩
  unfold accept
  split
  · rfl
  · rfl
  · split <;> rfl
  · rfl

theorem ignoresFlags_answerTransfer (op : Op) (rest : List Op) (a : XferAns) : IgnoresFlags (answerTransfer op rest a) := by
  intro s t h
  have hfail : ButFlags (xferFail op s) (xferFail op t) := by
    obtain ⟨x, y, z, rfl⟩ := h
    exact ⟨x, y, z, rfl⟩
  unfold answerTransfer
  split
  · split
    · exact ignoresFlags_settle _ s t h
    · exact hfail
  · rw [opPhase_butFlags h]
    split
    · exact h
    · split
      · exact hfail
      · exact h
      · exact ignoresFlags_settle _ _ _ (ignoresFlags_accept op _ a s t h)

theorem ignoresFlags_answerHead (op : Op) (rest : List Op) (c : Call) (a : Answer) :
    IgnoresFlags (answerHead op rest c a) := by
  intro s t h
  cases c with
  | selectLow =>
    simp only [answerHead]
    split
    · exact ignoresFlags_settle rest s t h
    · exact ignoresFlags_finish _ s t h
  | selectHigh =>
    simp only [answerHead]
    split
    · exact ignoresFlags_finish _ s t h
    · split
      · exact ignoresFlags_settle rest s t h
      · exact ignoresFlags_finish _ s t h
  | configure m =>
    obtain ⟨x, y, z, rfl⟩ := h
    simp only [answerHead]
    split
    · exact ignoresFlags_settle _ _ _ ⟨x, y, z, rfl⟩
    · exact ⟨x, y, z, rfl⟩
  | transfer b w => exact ignoresFlags_answerTransfer op rest a.xfer s t h
  | autoPoll o l k g b =>
    simp only [answerHead]
    split
    · split
      · obtain ⟨x, y, z, rfl⟩ := h
        exact ignoresFlags_settle _ _ _ ⟨x, y, z, rfl⟩
      · obtain ⟨x, y, z, rfl⟩ := h
        exact ignoresFlags_finish _ _ _ ⟨x, y, z, rfl⟩
      · exact ignoresFlags_finish _ s t h
    · exact h

theorem answerCall_nil {s : State} (h : s.todo = []) (c : Call) (a : Answer) : answerCall c a s = s.logged c a := by
  simp only [answerCall, h, State.logged]

theorem ignoresFlags_answerCall (c : Call) (a : Answer) : IgnoresFlags (answerCall c a) := by
  intro s t h
  have hlog : ButFlags (s.logged c a) (t.logged c a) := by
    obtain ⟨x, y, z, rfl⟩ := h
    exact ⟨x, y, z, rfl⟩
  cases ht : s.todo with
  | nil =>
    rw [answerCall_nil ht, answerCall_nil (h.todo.trans ht)]
    exact hlog
  | cons op rest =>
    rw [answerCall_cons ht, answerCall_cons (h.todo.trans ht)]
    exact ignoresFlags_answerHead op rest c a _ _ hlog

/-- A run makes the same calls and comes to the same end whatever the mode flags are: it works on the sampled ones. -/
theorem ignoresFlags_drive (as : List Answer) : IgnoresFlags (drive as) := by
  induction as with
  | nil => rintro s _ ⟨x, y, z, rfl⟩; exact ⟨x, y, z, rfl⟩
  | cons a as ih =>
    intro s t h
    cases hp : pendingCall s with
    | none =>
      rw [drive_stuck hp, drive_stuck ((pendingCall_butFlags h).trans hp)]
      obtain ⟨x, y, z, rfl⟩ := h
      exact ⟨x, y, z, rfl⟩
    | some c =>
      rw [drive_call hp, drive_call ((pendingCall_butFlags h).trans hp)]
      exact ih _ _ (ignoresFlags_answerCall c a s t h)

/-! ## O16 -/

theorem drive_operands (as : List Answer) (s : State) (a a2 l : Word) (g : Byte) :
    drive as { s with addr := a, addr2 := a2, len := l, arg := g } =
      { drive as s with addr := a, addr2 := a2, len := l, arg := g } := by
  have h := drive_outside as s { s with addr := a, addr2 := a2, len := l, arg := g }
  refine Eq.trans h ?_
  simp only [State.outside, ← drive_cmd as s, ← drive_rxRead as s, ← drive_env as s, ← drive_busOut as s]

/-- Settles O16: sampling is the only read of the operands and flags, and no move of a run writes the working copies. -/
theorem operandsAreSampledOnce : Obligations.OperandsAreSampledOnce := by
  refine ⟨fun i s t hr h => ?_, fun i s => ⟨rfl, rfl, rfl, rfl⟩, drive_operands, fun as s x y z => ?_⟩
  · rcases exec_cases h with ⟨hrun, -⟩ | ⟨-, -, rfl⟩ | ⟨-, -, rfl⟩
    · simp [hr] at hrun
    · exact finish_smp ..
    · rw [drive_smp, settle_smp]
      rfl
  · obtain ⟨x', y', z', h⟩ := ignoresFlags_drive as s _ ⟨x, y, z, rfl⟩
    rw [h]
    exact ⟨rfl, rfl, rfl, rfl, rfl, rfl⟩

end Sys2Proof.Machine
end

section
/-! SUPPORT. Runs in which transmitted bytes are declined and sent again (40_phase_encoder.md R136): `Resends` is `Runs`
against the calls of `withRetries`. Only a transmitted data phase may be declined, so a bracket's other items run as they
do in `Runs`. -/

namespace Sys2Proof.Machine

/-! ## Calls made again -/

theorem withRetries_of_none {cs : List WireCall} (h : ∀ k ∈ cs, k.retry = false) (ms : List Nat) :
    withRetries ms cs = cs := by
  induction cs with
  | nil => rfl
  | cons k cs ih =>
    rw [withRetries, h k List.mem_cons_self, ih fun x hx => h x (List.mem_cons_of_mem k hx)]
    rfl

/-- What is left of the retry counts `ms` after the calls `cs`. -/
def retriesLeft (ms : List Nat) (cs : List WireCall) : List Nat := ms.drop (cs.countP (·.retry))

theorem retriesLeft_of_none {cs : List WireCall} (h : ∀ k ∈ cs, k.retry = false) (ms : List Nat) :
    retriesLeft ms cs = ms := by
  rw [retriesLeft, List.countP_eq_zero.2 fun k hk => by simp [h k hk]]
  rfl

theorem withRetries_append (ms : List Nat) (cs cs' : List WireCall) :
    withRetries ms (cs ++ cs') = withRetries ms cs ++ withRetries (retriesLeft ms cs) cs' := by
  induction cs generalizing ms with
  | nil => rfl
  | cons k cs ih =>
    rw [List.cons_append, withRetries, withRetries, ih, ih]
    cases hk : k.retry with
    | false => simp [retriesLeft, hk]
    | true => simp [retriesLeft, hk, List.drop_tail]

theorem withRetries_nil (cs : List WireCall) : withRetries [] cs = cs := by
  induction cs with
  | nil => rfl
  | cons k cs ih =>
    rw [withRetries, List.tail_nil, ih]
    split <;> rfl

/-- The first phase of some calls made again: what precedes it and what follows it are made once. -/
theorem withRetries_once {pre post : List WireCall} {k : WireCall} (hpre : ∀ x ∈ pre, x.retry = false)
    (hk : k.retry = true) (hpost : ∀ x ∈ post, x.retry = false) (ms : List Nat) :
    withRetries ms (pre ++ k :: post) =
      pre ++ (List.replicate (ms.headD 0) { k with role := .declined } ++ k :: post) := by
  rw [withRetries_append, withRetries_of_none hpre, retriesLeft_of_none hpre, withRetries, hk, if_pos rfl,
    withRetries_of_none hpost]

theorem modeAfter_replicate (tm : Mode) {k k' : WireCall} (h : k'.call = k.call) (n : Nat) (cs : List WireCall) :
    modeAfter tm (List.replicate n k' ++ k :: cs) = modeAfter tm (k :: cs) := by
  induction n generalizing tm with
  | zero => rfl
  | succ n ih =>
    have again : modeAfter (modeAfter tm [k']) (k :: cs) = modeAfter tm (k :: cs) := by
      simp only [modeAfter, List.foldl_cons, List.foldl_nil, h]
      cases k.call <;> rfl
    rw [List.replicate_succ, List.cons_append, ← List.singleton_append, modeAfter_append, ih, again]

/-- Calls made again latch nothing new. -/
theorem modeAfter_withRetries (tm : Mode) (ms : List Nat) (cs : List WireCall) :
    modeAfter tm (withRetries ms cs) = modeAfter tm cs := by
  induction cs generalizing ms tm with
  | nil => rfl
  | cons k cs ih =>
    have one : ∀ ms, modeAfter tm (k :: withRetries ms cs) = modeAfter tm (k :: cs) := fun ms => by
      rw [← List.singleton_append, modeAfter_append, ih, ← modeAfter_append, List.singleton_append]
    rw [withRetries]
    split
    · exact (modeAfter_replicate (k := k) (k' := { k with role := .declined }) tm rfl _ _).trans (one _)
    · exact one _

theorem roles_withRetries {P : Role → Bool} (hP : P .declined = true) {cs : List WireCall}
    (h : ∀ k ∈ cs, P k.role = true) (ms : List Nat) : ∀ k ∈ withRetries ms cs, P k.role = true := by
  induction cs generalizing ms with
  | nil => exact fun k hk => absurd hk (List.not_mem_nil)
  | cons x cs ih =>
    have hx := h x List.mem_cons_self
    have hcs := ih fun k hk => h k (List.mem_cons_of_mem x hk)
    rw [withRetries]
    split
    · simp only [List.forall_mem_append, List.forall_mem_cons]
      exact ⟨fun k hk => by rw [(List.mem_replicate.1 hk).2]; exact hP, hx, hcs _⟩
    · exact List.forall_mem_cons.2 ⟨hx, hcs _⟩

/-! ## Items whose calls are made once -/

/-- No call of the item is made again: it is no transmitted data phase. -/
def WireItem.once (w : WireItem) : Bool :=
  match w with
  | .phase pd _ _ _ => !pd.actions.rsucc
  | _ => true

theorem ensureCalls_once (data : Bool) (tm want : Mode) : ∀ k ∈ ensureCalls data tm want, k.retry = false := by
  unfold ensureCalls
  split <;> simp

theorem presetCalls_once (b : Byte) (tm : Mode) (modes : List Mode) : ∀ k ∈ presetCalls b tm modes, k.retry = false := by
  induction modes generalizing tm with
  | nil => simp [presetCalls]
  | cons m ms ih =>
    rw [presetCalls]
    exact List.forall_mem_append.2 ⟨ensureCalls_once _ _ _, List.forall_mem_cons.2 ⟨rfl, ih _⟩⟩

theorem calls_once (c : Cfg) (tm : Mode) {w : WireItem} (h : w.once = true) : ∀ k ∈ w.calls c tm, k.retry = false := by
  cases w with
  | select | deselect | assist _ => simp [WireItem.calls]
  | phase pd tx role data =>
    have hr : pd.actions.rsucc = false := by simpa [WireItem.once] using h
    rw [WireItem.calls]
    refine List.forall_mem_append.2 ⟨?_, ?_⟩
    · split
      · exact List.forall_mem_append.2 ⟨ensureCalls_once _ _ _, by simp [hr]⟩
      · exact presetCalls_once _ _ _
    · split
      · exact ensureCalls_once _ _ _
      · simp

theorem wireCalls_once (c : Cfg) (tm : Mode) {ws : List WireItem} (h : ∀ w ∈ ws, w.once = true) :
    ∀ k ∈ wireCalls c tm ws, k.retry = false := by
  induction ws generalizing tm with
  | nil => simp [wireCalls]
  | cons w ws ih =>
    obtain ⟨hw, hws⟩ := List.forall_mem_cons.1 h
    exact List.forall_mem_append.2 ⟨calls_once c tm hw, ih _ hws⟩

theorem once_endNarrow (qpi leaving : Bool) {ws : List WireItem} (h : ∀ w ∈ ws, w.once = true) :
    ∀ w ∈ endNarrow qpi leaving ws, w.once = true := by
  induction ws with
  | nil => exact h
  | cons w rest ih =>
    obtain ⟨hw, hrest⟩ := List.forall_mem_cons.1 h
    unfold endNarrow
    split
    · simp
    · next hone =>
      cases hone
      have hpd : WireItem.once (.phase _ _ _ _) = true := hw
      split <;> exact List.forall_mem_singleton.2 hpd
    · next hmore =>
      cases hmore
      exact List.forall_mem_cons.2 ⟨hw, ih hrest⟩

/-- The address and dummy phases of a bracket. -/
theorem once_head (c : Cfg) (p : Sampled) (m : Width) (bs : List Byte) (items : List DummyItem) :
    ∀ w ∈ bs.map (fun b => WireItem.phase (pdAdr m p.qpi) b .plain) ++ items.flatMap (dummyWire c p), w.once = true := by
  refine List.forall_mem_append.2 ⟨List.forall_mem_map.2 fun _ _ => rfl, fun w hw => ?_⟩
  obtain ⟨item, -, hw⟩ := List.mem_flatMap.1 hw
  cases item with
  | bytes n n4 l r d => rw [(List.mem_replicate.1 hw).2]; rfl
  | preset k => rw [List.mem_singleton.1 hw]; rfl

theorem once_statusWire (c : Cfg) (p : Sampled) (r : Role) : ∀ w ∈ statusWire c p r, w.once = true := by
  simp [statusWire, WireItem.once, pdOpc, pdRxi]

/-! ## Runs with bytes sent again -/

/-- Like `RunsTo`, however often each byte that may be sent again is declined first. -/
structure ResendsTo (c : Cfg) (p : Sampled) (ops : List Op) (ws : List WireItem) (tx : List Byte) (mid : List Op) :
    Prop where
  mode : ∀ tm, modeAfter tm (wireCalls c tm ws) = wireTm c tm ws
  runs : ∀ (ms : List Nat) (s : State) (as rest : List Answer) (k : List Op), s.cfg = c → s.smp = p → tx <+: s.txFifo →
    meets c (withRetries ms (wireCalls c s.tm ws)) as = true →
    drive (as ++ rest) (settle (ops ++ k) s) =
      drive rest (settle (mid ++ k) (s.did (withRetries ms (wireCalls c s.tm ws)) as tx.length))

/-- `ResendsTo` with nothing of the items left. -/
abbrev Resends (c : Cfg) (p : Sampled) (ops : List Op) (ws : List WireItem) (tx : List Byte) : Prop :=
  ResendsTo c p ops ws tx []

section
variable {c : Cfg} {p : Sampled}

theorem RunsTo.resends {ops mid : List Op} {ws : List WireItem} {tx : List Byte} (h : RunsTo c p ops ws tx mid)
    (ho : ∀ w ∈ ws, w.once = true) : ResendsTo c p ops ws tx mid where
  mode := h.mode
  runs ms s as rest k hc hp ht hm := by
    rw [withRetries_of_none (wireCalls_once c s.tm ho)] at hm ⊢
    exact h.runs s as rest k hc hp ht hm

theorem ResendsTo.trans {ops mid end_ : List Op} {ws ws' : List WireItem} {tx tx' : List Byte}
    (h : ResendsTo c p ops ws tx mid) (h' : ResendsTo c p mid ws' tx' end_) :
    ResendsTo c p ops (ws ++ ws') (tx ++ tx') end_ where
  mode tm := by rw [wireCalls_append, modeAfter_append, h.mode, h'.mode]; simp [wireTm]
  runs ms s as rest k hc hp ht hm := by
    have htm : modeAfter s.tm (withRetries ms (wireCalls c s.tm ws)) = wireTm c s.tm ws := by
      rw [modeAfter_withRetries, h.mode]
    rw [wireCalls_append, withRetries_append] at hm ⊢
    obtain ⟨as1, as2, rfl, h1, h2⟩ := (meets_append ..).1 hm
    obtain ⟨f, hf⟩ := ht
    have ht1 : tx <+: s.txFifo := ⟨tx' ++ f, by rw [← hf, List.append_assoc]⟩
    have ht2 : tx' <+: s.txFifo.drop tx.length := ⟨f, by rw [← hf, List.append_assoc, List.drop_left]⟩
    let s1 := s.did (withRetries ms (wireCalls c s.tm ws)) as1 tx.length
    have htm1 : s1.tm = wireTm c s.tm ws := htm
    rw [List.append_assoc, h.runs ms s as1 _ k hc hp ht1 h1, List.length_append, did_append _ (meets_length h1), ← htm1]
    exact h'.runs (retriesLeft ms (wireCalls c s.tm ws)) s1 as2 rest k hc hp ht2 (by rw [htm1]; exact h2)

theorem ResendsTo.append {ops ops' : List Op} {ws ws' : List WireItem} {tx tx' : List Byte} (h : Resends c p ops ws tx)
    (h' : Resends c p ops' ws' tx') : Resends c p (ops ++ ops') (ws ++ ws') (tx ++ tx') :=
  ResendsTo.trans (mid := ops')
    ⟨h.mode, fun ms s as rest k hc hp ht hm => by
      rw [List.append_assoc, h.runs ms s as rest (ops' ++ k) hc hp ht hm]
      rfl⟩ h'

end

/-! ## A transmitted byte -/

/-- The call of a transmitted byte that is declined. -/
def declinedCall (b : Byte) (wait data : Bool) : WireCall :=
  { call := .transfer b wait, role := .declined, data := data, retry := true }

theorem did_append_zero (s : State) {cs cs' : List WireCall} {as as' : List Answer} (h : cs.length = as.length) (m : Nat) :
    s.did (cs ++ cs') (as ++ as') m = (s.did cs as 0).did cs' as' m := by
  rw [← did_append s h, Nat.zero_add]

theorem did_cons (s : State) (k : WireCall) (cs : List WireCall) (a : Answer) (as : List Answer) :
    s.did (k :: cs) (a :: as) 0 = (s.did [k] [a] 0).did cs as 0 := did_append_zero s (cs := [k]) (as := [a]) rfl 0

theorem opPhase_did {op : Op} {s : State} (k : WireCall) (a : Answer) :
    opPhase (s.did [k] [a] 0) op = opPhase s op := by cases op <;> rfl

/-- A byte declined any number of times leaves the item it belongs to where it was. -/
theorem drive_declined {op : Op} {pd : PD} {b : Byte} {data : Bool} {k : List Op} (hd : due op = true)
    (hr : pd.actions.rsucc = true) (n : Nat) (s : State) (as rest : List Answer) (hp : opPhase s op = some (pd, b))
    (htm : s.tm = pd.want) (hm : meets s.cfg (List.replicate n (declinedCall b pd.actions.wait data)) as = true) :
    drive (as ++ rest) (settle (op :: k) s) =
      drive rest (settle (op :: k) (s.did (List.replicate n (declinedCall b pd.actions.wait data)) as 0)) := by
  induction n generalizing s as with
  | zero =>
    obtain rfl := (meets_nil ..).1 hm
    rw [List.replicate_zero, did_nil]
    rfl
  | succ n ih =>
    obtain ⟨a, as, rfl, ha, hm⟩ := (meets_cons ..).1 hm
    have hx : a.xfer = .notAccepted := by simpa [declinedCall, Role.met] using ha
    have hset (t : State) (ht : opPhase t op = some (pd, b)) : settle (op :: k) t = { t with todo := op :: k } :=
      settle_due (by rw [ht]; rfl) hd k
    have hp0 : opPhase { s with todo := op :: k } op = some (pd, b) := by rw [← hp]; cases op <;> rfl
    have hp1 : opPhase (s.did [declinedCall b pd.actions.wait data] [a] 0) op = some (pd, b) := (opPhase_did ..).trans hp
    have hcall : pendingCall { s with todo := op :: k } = some (.transfer b pd.actions.wait) := by
      rw [pendingCall_cons rfl, opCall_phase hp0, ensuring, if_pos htm]
    have hstay : answerCall (.transfer b pd.actions.wait) a { s with todo := op :: k } =
        { s.did [declinedCall b pd.actions.wait data] [a] 0 with todo := op :: k } := by
      rw [answerCall_cons rfl]
      show answerTransfer op k a.xfer _ = _
      rw [hx, answerTransfer_declined ((opPhase_logged ..).trans hp0) hr]
      simp [State.logged, State.did, declinedCall, modeAfter, capturedBytes, sumInto, lastByte, traceOf, Role.kept]
    rw [hset s hp, List.cons_append, drive_call hcall, hstay, ← hset _ hp1, ih _ as hp1 htm hm, List.replicate_succ,
      ← did_cons]

/-- The call of a transmitted byte that is accepted. -/
def sentCall (b : Byte) (wait data : Bool) : WireCall :=
  { call := .transfer b wait, role := .plain, data := data, retry := true }

/-- The return of the mode after a phase that carries MODE_OFF. -/
def modeOffCalls (pd : PD) (data : Bool) : List WireCall :=
  if pd.actions.modeOff then ensureCalls data pd.want narrowMode else []

section
variable {pd : PD} (hn : pd.dummy = .none) (hr : pd.actions.rsucc = true) (b : Byte) (data : Bool) (c : Cfg) (tm : Mode)
include hn hr

/-- The calls of a phase whose byte may be sent again. -/
theorem wireCalls_sent : wireCalls c tm [.phase pd b .plain data] =
    ensureCalls data tm pd.want ++ sentCall b pd.actions.wait data :: modeOffCalls pd data := by
  simp [wireCalls, WireItem.calls, hn, hr, latched, sentCall, modeOffCalls]

theorem withRetries_sent (ms : List Nat) : withRetries ms (wireCalls c tm [.phase pd b .plain data]) =
    ensureCalls data tm pd.want ++ (List.replicate (ms.headD 0) (declinedCall b pd.actions.wait data) ++
      sentCall b pd.actions.wait data :: modeOffCalls pd data) := by
  have hpost : ∀ x ∈ modeOffCalls pd data, x.retry = false := by
    unfold modeOffCalls
    split
    · exact ensureCalls_once _ _ _
    · simp
  rw [wireCalls_sent hn hr]
  exact withRetries_once (ensureCalls_once _ _ _) rfl hpost ms

end

theorem modeAfter_declined (tm : Mode) (n : Nat) (b : Byte) (wait data : Bool) :
    modeAfter tm (List.replicate n (declinedCall b wait data)) = tm := by
  have := modeAfter_replicate tm (k := sentCall b wait data) (k' := declinedCall b wait data) rfl n []
  rwa [modeAfter_append] at this

/-- A transmitted data phase: its `configure` is made once, its byte until it is accepted. -/
theorem resends_phase {c : Cfg} {p : Sampled} {op : Op} {pd : PD} {b : Byte} {data : Bool} {tx : List Byte}
    (hP : ∀ s : State, s.cfg = c → s.smp = p → tx <+: s.txFifo → opPhase s op = some (pd, b)) (hd : due op = true)
    (hn : pd.dummy = .none) (hr : pd.actions.rsucc = true)
    (hacc : ∀ (s : State) (r : Byte), accept op pd.actions (.done r) s = s.took .plain r tx.length) :
    ResendsTo c p [op] [.phase pd b .plain data] tx (afterAccept op) where
  mode := (runs_phase hP hd hn rfl hacc).mode
  runs ms s as rest k hc hp ht hm := by
    subst hc
    have hset (t : State) (hcfg : t.cfg = s.cfg) (hsmp : t.smp = p) (hfifo : tx <+: t.txFifo) :
        settle (op :: k) t = { t with todo := op :: k } :=
      settle_due (by rw [hP t hcfg hsmp hfifo]; rfl) hd k
    rw [withRetries_sent hn hr] at hm ⊢
    obtain ⟨as1, as23, rfl, hm1, hm23⟩ := (meets_append ..).1 hm
    obtain ⟨as2, as3, rfl, hm2, hm3⟩ := (meets_append ..).1 hm23
    let s1 := s.did (ensureCalls data s.tm pd.want) as1 0
    let s2 := s1.did (List.replicate (ms.headD 0) (declinedCall b pd.actions.wait data)) as2 0
    have htm1 : s1.tm = pd.want := modeAfter_ensureCalls _ _ _
    have htm2 : s2.tm = pd.want := (modeAfter_declined ..).trans htm1
    have hcalls : wireCalls s.cfg s2.tm [.phase pd b .plain data] =
        sentCall b pd.actions.wait data :: modeOffCalls pd data := by
      rw [wireCalls_sent hn hr, htm2, ensureCalls, if_pos rfl, List.nil_append]
    have hrun := (runs_phase (data := data) hP hd hn rfl hacc).runs s2 as3 rest k rfl hp ht (by rw [hcalls]; exact hm3)
    rw [List.append_assoc, List.append_assoc, List.singleton_append, hset s rfl hp ht,
      drive_ensure (opCall_phase (hP s rfl hp ht)) (fun tm tr => hset _ rfl hp ht) hm1]
    show drive _ { s1 with todo := op :: k } = _
    rw [← hset s1 rfl hp ht, drive_declined hd hr _ s1 as2 _ (hP s1 rfl hp ht) htm1 hm2]
    rw [List.singleton_append, hcalls] at hrun
    rw [hrun, did_append_zero s (meets_length hm1), did_append_zero _ (meets_length hm2)]

theorem resends_txFifo {c : Cfg} {p : Sampled} (m : Width) (count : Nat) : ∀ (tx : List Byte) (i : Nat),
    i + tx.length = count →
    Resends c p [.tx m i count .fifo]
      ((tx.zipIdx i).map fun x => .phase (pdTx m p.qpi (x.2 + 1 == count)) x.1 .plain true) tx
  | [], i, h => (runs_txFifo m count [] i h).resends (by simp)
  | b :: tx, i, h => by
    rw [List.length_cons] at h
    rw [List.zipIdx_cons, List.map_cons, ← List.singleton_append, ← List.singleton_append (l := tx)]
    have first : ResendsTo c p [.tx m i count .fifo] [.phase (pdTx m p.qpi (i + 1 == count)) b .plain true] [b]
        [.tx m (i + 1) count .fifo] :=
      resends_phase (op := .tx m i count .fifo)
        (fun s hc hp ht => by
          obtain ⟨f, hf⟩ := ht
          rw [opPhase_tx (b := b) (by rw [txByte, ← hf]; rfl), hp])
        (by simp only [due, decide_eq_true_eq]; omega) rfl rfl
        (fun s r => by rw [accept_tx _ rfl]; simp [State.took, sumInto, Role.kept, List.drop_one])
    exact first.trans (resends_txFifo m count tx (i + 1) (by omega))

theorem resends_txArg {c : Cfg} {p : Sampled} (m : Width) :
    Resends c p [.tx m 0 1 .arg] [.phase (pdTx m p.qpi true) p.arg .plain true] [] := by
  have first : ResendsTo c p [.tx m 0 1 .arg] [.phase (pdTx m p.qpi true) p.arg .plain true] [] [.tx m 1 1 .arg] :=
    resends_phase (op := .tx m 0 1 .arg) (fun s hc hp _ => by rw [← hp]; rfl) rfl rfl rfl
      (fun s r => by rw [accept_tx _ rfl]; simp [State.took, sumInto, Role.kept])
  have last : RunsTo c p [.tx m 1 1 .arg] [] [] [] := .skip fun _ _ _ => rfl
  exact first.trans (last.resends (by simp))

/-! ## Brackets with bytes sent again -/

section
variable {c : Cfg} {p : Sampled} {d : CmdDesc} {addr addr2 : Word} {len : Nat} {tx used : List Byte} {keep : Role}

theorem resends_data (m : Width) (h : DataFits p d len tx used keep) :
    Resends c p (dataOps m d.data len) (dataWire c p m d.data p.len.toNat tx keep) used := by
  have hrun := runs_data (c := c) m h
  unfold DataFits at h
  cases hd : d.data with
  | noData =>
    rw [hd] at hrun
    exact hrun.resends (by simp [dataWire])
  | rx k =>
    rw [hd] at hrun
    exact hrun.resends (by simp [dataWire, WireItem.once, pdRx])
  | rxi =>
    rw [hd] at hrun
    exact hrun.resends (by simp [dataWire, WireItem.once, pdRxi])
  | tx k =>
    rw [hd] at h
    rcases h with ⟨hs, rfl, hl⟩ | ⟨rfl, rfl, rfl⟩
    · simp only [dataOps, dataWire, hs, ← hl]
      exact resends_txFifo m _ used 0 (by omega)
    · exact resends_txArg m

/-- A whole bracket, however often each of its bytes is declined. -/
theorem resends_bracket (h : DataFits p d len tx used keep) :
    Resends c p (bracketOps c p d addr addr2 len) (bracketWire c p d addr addr2 tx keep) used := by
  have hopc : Runs c p [.opcode d.opc (d.opcodeOff && p.qpi)]
      [.phase (pdOpc p.qpi (d.opcodeOff && p.qpi)) (c.opcode p.a4b d.opc) .plain] [] :=
    runs_phase (op := .opcode d.opc (d.opcodeOff && p.qpi)) (fun s hc hp _ => by rw [← hc, ← hp]; rfl) rfl rfl rfl
      (fun s r => by simp [accept, State.took, sumInto, Role.kept, pdOpc])
  have hhead := (runs_head (c := c) (addr := addr) (addr2 := addr2) h).resends (by
    have ho := once_head c p (d.shapeIn c).addrM (addrPhaseBytes c d.addr p.a4b addr addr2) (d.shapeIn c).dummy
    dsimp only
    split
    · exact once_endNarrow _ _ ho
    · exact ho)
  have := ((((runs_select c p).resends (by simp [WireItem.once])).append
    (hopc.resends (by simp [WireItem.once, pdOpc]))).append hhead).append
    ((resends_data (d.shapeIn c).dataM h).append ((runs_deselect c p).resends (by simp [WireItem.once])))
  simpa [bracketOps, bracketWire] using this

end

end Sys2Proof.Machine
end

section
/-! SUPPORT. Commands with their waits (41_sequencer_poller.md R168 to R173): `Performs` says that a list of items works off
the parts of a command, whatever the reads of its waits and the bytes sent again; a run of the items follows from it. -/

namespace Sys2Proof.Machine

/-! ## The state after some waits -/

/-- `did`, with the poll registers: LASTSR the last status byte, N as given. -/
def State.waited (s : State) (cs : List WireCall) (as : List Answer) (m : Nat) (n : Word) : State :=
  { s.did cs as m with lastSr := lastByte Role.status cs as s.lastSr, n := n }

theorem waited_append (s : State) {cs cs' : List WireCall} {as as' : List Answer} (h : cs.length = as.length) (m m' : Nat)
    (n n' : Word) : s.waited (cs ++ cs') (as ++ as') (m + m') n' = (s.waited cs as m n).waited cs' as' m' n' := by
  simp only [State.waited, did_append s h, lastByte_append _ h]
  rfl

theorem waited_append_zero (s : State) {cs cs' : List WireCall} {as as' : List Answer} (h : cs.length = as.length) (m : Nat)
    (n n' : Word) : s.waited (cs ++ cs') (as ++ as') m n' = (s.waited cs as 0 n).waited cs' as' m n' := by
  rw [← waited_append s h, Nat.zero_add]

theorem waited_nil (s : State) : s.waited [] [] 0 s.n = s := by
  rw [State.waited, did_nil]
  rfl

theorem did_eq_waited (s : State) {cs : List WireCall} (h : ∀ k ∈ cs, quiet k.role = true) (as : List Answer) (m : Nat) :
    s.did cs as m = s.waited cs as m s.n := by
  rw [State.waited, (quiet_status h as s.lastSr).1]
  rfl

/-! ## The mode latched after some items -/

/-- Items latch the mode of their last `configure`, when no assisted poll among them is one. -/
theorem modeAfter_wireCalls (c : Cfg) (tm : Mode) {ws : List WireItem} (h : ∀ m, WireItem.assist (.configure m) ∉ ws) :
    modeAfter tm (wireCalls c tm ws) = wireTm c tm ws := by
  induction ws generalizing tm with
  | nil => rfl
  | cons w ws ih =>
    have hw : modeAfter tm (w.calls c tm) = w.after c tm := by
      cases w with
      | select | deselect => rfl
      | phase pd tx role data => exact modeAfter_calls_phase ..
      | assist k =>
        cases k with
        | configure m => exact absurd List.mem_cons_self (h m)
        | selectLow | selectHigh | transfer _ _ | autoPoll _ _ _ _ _ => rfl
    rw [wireCalls, modeAfter_append, hw, ih _ fun m hm => h m (List.mem_cons_of_mem w hm)]
    rfl

/-! ## The reads of a wait -/

section
variable {c : Cfg} {p : Sampled} {sp : PollSpec}

theorem pendingReads_succ (k : Nat) :
    pendingReads c p sp (k + 1) = statusWire c p (.pending sp) ++ pendingReads c p sp k := rfl

theorem mem_pendingReads {k : Nat} {w : WireItem} (h : w ∈ pendingReads c p sp k) : w ∈ statusWire c p (.pending sp) := by
  obtain ⟨l, hl, hw⟩ := List.mem_flatten.1 h
  rwa [(List.mem_replicate.1 hl).2] at hw

theorem mem_waitReads {k : Nat} {w : WireItem} (h : w ∈ waitReads c p sp k) :
    (∃ r, w ∈ statusWire c p r) ∨
    w = .assist (.autoPoll (c.opcode p.a4b .rdsr1) (eff .l1 p.qpi) sp.mask sp.target (c.budget sp.cls)) := by
  unfold waitReads at h
  cases hi : c.pollImpl with
  | reads =>
    simp only [hi] at h
    exact .inl ((List.mem_append.1 h).elim (fun h => ⟨_, mem_pendingReads h⟩) fun h => ⟨_, h⟩)
  | assisted =>
    simp only [hi, waitWire, List.mem_singleton] at h
    exact .inr h

theorem once_waitReads (k : Nat) : ∀ w ∈ waitReads c p sp k, w.once = true := by
  intro w h
  rcases mem_waitReads h with ⟨r, h⟩ | rfl
  · exact once_statusWire c p r w h
  · rfl

theorem once_pendingReads (k : Nat) : ∀ w ∈ pendingReads c p sp k, w.once = true :=
  fun w h => once_statusWire c p _ w (mem_pendingReads h)

theorem modeAfter_waitReads (tm : Mode) (k : Nat) :
    modeAfter tm (wireCalls c tm (waitReads c p sp k)) = wireTm c tm (waitReads c p sp k) := by
  refine modeAfter_wireCalls c tm fun m h => ?_
  rcases mem_waitReads h with ⟨r, h⟩ | h
  · simp [statusWire] at h
  · simp at h

theorem modeAfter_pendingReads (tm : Mode) (k : Nat) :
    modeAfter tm (wireCalls c tm (pendingReads c p sp k)) = wireTm c tm (pendingReads c p sp k) :=
  modeAfter_wireCalls c tm fun m h => by simpa [statusWire] using mem_pendingReads h

theorem modeAfter_statusWire (tm : Mode) (r : Role) :
    modeAfter tm (wireCalls c tm (statusWire c p r)) = wireTm c tm (statusWire c p r) :=
  modeAfter_wireCalls c tm fun m h => by simp [statusWire] at h

/-- The poll registers after the test of a poll read. -/
def State.tested (s : State) : State := { s with lastSr := s.sr, n := s.n + 1 }

theorem settle_pollTest (ops : List Op) (s : State) :
    settle (.pollTest sp :: ops) s =
      if statusMatches sp s.sr then settle ops s.tested else pollLoop sp ops s.tested := rfl

/-- One poll read and its test: SEQ goes on, or is at the head of the poll loop again (41_sequencer_poller.md R168). -/
theorem drive_statusRead {r : Role} (hr : r = .polled sp ∨ r = .pending sp) {s : State} {as rest : List Answer}
    {ops : List Op} (hc : s.cfg = c) (hp : s.smp = p) (hn : s.n.toNat ≠ c.budget sp.cls)
    (hm : meets c (wireCalls c s.tm (statusWire c p r)) as = true) :
    drive (as ++ rest) (pollLoop sp ops s) =
      drive rest (if r = .polled sp then settle ops (s.waited (wireCalls c s.tm (statusWire c p r)) as 0 (s.n + 1))
        else pollLoop sp ops (s.waited (wireCalls c s.tm (statusWire c p r)) as 0 (s.n + 1))) := by
  have hst : ∀ a, Role.status r a = some (byteOf a) := by rcases hr with rfl | rfl <;> exact fun _ => rfl
  have hkp : ∀ a, Role.kept r a = some (byteOf a) := by rcases hr with rfl | rfl <;> exact fun _ => rfl
  have hkb : keepsByte r = true := by rcases hr with rfl | rfl <;> rfl
  obtain ⟨a, hmet, hk, hs⟩ := statusWire_byte hst hkp hm
  have htest : statusMatches sp (byteOf a) = decide (r = .polled sp) := by
    rcases hr with rfl | rfl <;> simp_all [Role.met, statusMatches]
  have hsr : (s.did (wireCalls c s.tm (statusWire c p r)) as 0).sr = byteOf a := hk s.sr
  have hread : (s.did (wireCalls c s.tm (statusWire c p r)) as 0).tested =
      s.waited (wireCalls c s.tm (statusWire c p r)) as 0 (s.n + 1) := by
    rw [State.tested, State.waited, hs, hsr]
    rfl
  rw [drive_pollLoop hc hp hn hkb hm, settle_pollTest, hread, hsr, htest]
  simp only [decide_eq_true_eq]

/-- A counter that `k` reads take from `j` to `j + k` meets the budget at none of them. -/
def CountsTo (b j k : Nat) : Prop := ∀ i < k, (BitVec.ofNat 32 (j + i)).toNat ≠ b

theorem countsTo_of_le {b k : Nat} (hb : k ≤ b) (h32 : b < 2 ^ 32 ∨ k < 2 ^ 32) : CountsTo b 0 k := by
  intro i hi
  rw [BitVec.toNat_ofNat, Nat.mod_eq_of_lt (by omega)]
  omega

theorem CountsTo.tail {b j k : Nat} (h : CountsTo b j (k + 1)) : CountsTo b (j + 1) k := by
  intro i hi
  have := h (i + 1) (by omega)
  rwa [show j + (i + 1) = j + 1 + i by omega] at this

/-- Reads in vain bring SEQ back to the head of the poll loop, N counting them. -/
theorem drive_pendingReads (k : Nat) {j : Nat} {s : State} {as rest : List Answer} {ops : List Op} (hc : s.cfg = c)
    (hp : s.smp = p) (hj : s.n = BitVec.ofNat 32 j) (hn : CountsTo (c.budget sp.cls) j k)
    (hm : meets c (wireCalls c s.tm (pendingReads c p sp k)) as = true) :
    drive (as ++ rest) (pollLoop sp ops s) =
      drive rest (pollLoop sp ops
        (s.waited (wireCalls c s.tm (pendingReads c p sp k)) as 0 (BitVec.ofNat 32 (j + k)))) := by
  induction k generalizing s as j with
  | zero =>
    obtain rfl := (meets_nil ..).1 hm
    rw [Nat.add_zero, ← hj, show wireCalls c s.tm (pendingReads c p sp 0) = [] from rfl, waited_nil]
    rfl
  | succ k ih =>
    rw [pendingReads_succ, wireCalls_append] at hm ⊢
    obtain ⟨as1, as2, rfl, hm1, hm2⟩ := (meets_append ..).1 hm
    let s1 := s.waited (wireCalls c s.tm (statusWire c p (.pending sp))) as1 0 (s.n + 1)
    have htm : s1.tm = wireTm c s.tm (statusWire c p (.pending sp)) := modeAfter_statusWire ..
    have hn1 : s1.n = BitVec.ofNat 32 (j + 1) := by
      show s.n + 1 = _
      rw [hj, BitVec.ofNat_add]
      rfl
    have h0 : s.n.toNat ≠ c.budget sp.cls := by rw [hj]; exact hn 0 (by omega)
    rw [List.append_assoc, drive_statusRead (.inr rfl) hc hp h0 hm1, if_neg (by simp)]
    show drive _ (pollLoop sp ops s1) = _
    rw [ih (s := s1) hc hp hn1 hn.tail (by rw [htm]; exact hm2), htm, ← waited_append_zero s (meets_length hm1),
      show j + (k + 1) = j + 1 + k by omega]

theorem settle_poll_reads (hi : c.pollImpl = .reads) {s : State} (hc : s.cfg = c) (ops : List Op) :
    settle (.poll sp :: ops) s = pollLoop sp ops { s with n := 0 } := by
  simp only [settle, hc, hi]

theorem settle_poll_assisted (hi : c.pollImpl = .assisted) {s : State} (hc : s.cfg = c) (ops : List Op) :
    settle (.poll sp :: ops) s = { s with todo := .autoPoll sp :: ops } := by
  simp only [settle, hc, hi]

/-- A wait ended by its read number `k + 1`, or by XP. -/
theorem drive_wait {k : Nat} (hb : c.pollImpl = .reads → k < c.budget sp.cls ∧ k < 2 ^ 32) {s : State}
    {as rest : List Answer} {ops : List Op} (hc : s.cfg = c) (hp : s.smp = p)
    (hm : meets c (wireCalls c s.tm (waitReads c p sp k)) as = true) :
    drive (as ++ rest) (settle (.poll sp :: ops) s) =
      drive rest (settle ops (s.waited (wireCalls c s.tm (waitReads c p sp k)) as 0 (readsN c [.wait sp] [k] s.n))) := by
  cases hi : c.pollImpl with
  | reads =>
    obtain ⟨hb, h32⟩ := hb hi
    have hN : readsN c [.wait sp] [k] s.n = BitVec.ofNat 32 (0 + k) + 1 := by
      simp only [readsN, hi, lastReads, Nat.zero_add]
      exact BitVec.ofNat_add k 1
    have hW : waitReads c p sp k = pendingReads c p sp k ++ statusWire c p (.polled sp) := by simp only [waitReads, hi]
    rw [hW, wireCalls_append] at hm ⊢
    obtain ⟨as1, as2, rfl, hm1, hm2⟩ := (meets_append ..).1 hm
    let s0 : State := { s with n := 0 }
    let s1 := s0.waited (wireCalls c s.tm (pendingReads c p sp k)) as1 0 (BitVec.ofNat 32 (0 + k))
    have htm : s1.tm = wireTm c s.tm (pendingReads c p sp k) := modeAfter_pendingReads ..
    have hk : s1.n.toNat ≠ c.budget sp.cls := by
      show (BitVec.ofNat 32 (0 + k)).toNat ≠ _
      rw [BitVec.toNat_ofNat, Nat.mod_eq_of_lt (by omega)]
      omega
    rw [settle_poll_reads hi hc, List.append_assoc,
      drive_pendingReads (s := s0) k hc hp rfl (countsTo_of_le (by omega) (.inr h32)) hm1]
    show drive _ (pollLoop sp ops s1) = _
    rw [drive_statusRead (s := s1) (.inl rfl) hc hp hk (by rw [htm]; exact hm2), if_pos rfl, htm, hN]
    show drive rest (settle ops (s1.waited _ as2 0 (BitVec.ofNat 32 (0 + k) + 1))) = _
    rw [← waited_append_zero s0 (meets_length hm1)]
    rfl
  | assisted =>
    have hN : readsN c [.wait sp] [k] s.n = s.n := by simp only [readsN, hi]
    have hW : waitReads c p sp k =
        [.assist (.autoPoll (c.opcode p.a4b .rdsr1) (eff .l1 p.qpi) sp.mask sp.target (c.budget sp.cls))] := by
      simp only [waitReads, waitWire, hi]
    rw [hW] at hm ⊢
    rw [hN]
    exact (runs2_wait_assisted hi).runs s as rest ops hc hp List.nil_prefix hm

/-- A wait whose budget of reads is used up without success ends the command (41_sequencer_poller.md R172). -/
theorem drive_wait_timesOut (hi : c.pollImpl = .reads) (h32 : c.budget sp.cls < 2 ^ 32) {s : State} {as rest : List Answer}
    {ops : List Op} (hc : s.cfg = c) (hp : s.smp = p)
    (hm : meets c (wireCalls c s.tm (pendingReads c p sp (c.budget sp.cls))) as = true) :
    drive (as ++ rest) (settle (.poll sp :: ops) s) =
      drive rest (finish sp.err (s.waited (wireCalls c s.tm (pendingReads c p sp (c.budget sp.cls))) as 0
        (BitVec.ofNat 32 (c.budget sp.cls)))) := by
  rw [settle_poll_reads hi hc, drive_pendingReads (s := { s with n := 0 }) (c.budget sp.cls) hc hp rfl
    (countsTo_of_le (le_refl _) (.inl h32)) hm, Nat.zero_add, pollLoop_eq, if_pos]
  · rfl
  · show (BitVec.ofNat 32 (c.budget sp.cls)).toNat = s.cfg.budget sp.cls
    rw [hc, BitVec.toNat_ofNat, Nat.mod_eq_of_lt h32]

/-- The token of an assisted poll that XP gives up, with the status byte `sr`. -/
def givenUp (c : Cfg) (p : Sampled) (sp : PollSpec) (sr : Byte) : Event :=
  { call := .autoPoll (c.opcode p.a4b .rdsr1) (eff .l1 p.qpi) sp.mask sp.target (c.budget sp.cls)
    reply := .poll (.timedOut sr) }

/-- An assisted poll that XP gives up ends the command (41_sequencer_poller.md R173). -/
theorem drive_autoPoll_timesOut (hi : c.pollImpl = .assisted) {s : State} {bad : Answer} {sr : Byte}
    (hbad : bad.poll = .timedOut sr) {rest : List Answer} {ops : List Op} (hc : s.cfg = c) (hp : s.smp = p) :
    drive (bad :: rest) (settle (.poll sp :: ops) s) =
      drive rest (finish sp.err { s with lastSr := sr, trace := s.trace ++ [givenUp c p sp sr] }) := by
  subst hc hp
  rw [settle_poll_assisted hi rfl, drive_call (s := { s with todo := .autoPoll sp :: ops }) rfl, answerCall_cons rfl]
  simp only [answerHead, hbad, raiseError_closed, State.logged, replyTo]
  rfl

end

end Sys2Proof.Machine
end

section
/-! SUPPORT. A command as its parts: `Performs` relates the items of a command to the parts it puts on the wire. It follows
WRITE's working registers, which decide how its loop unrolls; what it says holds for any reads of the waits and any bytes
sent again. -/

namespace Sys2Proof.Machine

/-- WRITE's working registers OFF, REM and SRCI (10_state.md R48). -/
structure Work where
  off : Word
  rem : Word
  srci : Word

def State.work (s : State) : Work := { off := s.off, rem := s.rem, srci := s.srci }

/-- `s` with the working registers `w`. -/
def State.atWork (s : State) (w : Work) : State := { s with off := w.off, rem := w.rem, srci := w.srci }

theorem atWork_work (s : State) : s.atWork s.work = s := rfl

/-- Working off the parts `ps`, which use the bytes `tx` of the FIFO, takes the items `ops` at the working registers `w` to
the items `mid` at `w'`. -/
inductive Performs (c : Cfg) (p : Sampled) : Work → List Op → List Part → List Byte → Work → List Op → Prop
  | done {w : Work} {ops : List Op} : Performs c p w ops [] [] w ops
  /-- Items that are always the same. -/
  | items {w w' : Work} {ops ops' mid : List Op} {ws : List WireItem} {ps : List Part} {tx tx' : List Byte} :
      Resends c p ops ws tx → ws.all (WireItem.has quiet) = true → Performs c p w ops' ps tx' w' mid →
      Performs c p w (ops ++ ops') (.items ws :: ps) (tx ++ tx') w' mid
  /-- A wait. -/
  | wait {w w' : Work} {ops mid : List Op} {sp : PollSpec} {ps : List Part} {tx : List Byte} :
      Performs c p w ops ps tx w' mid → Performs c p w (.poll sp :: ops) (.wait sp :: ps) tx w' mid
  /-- Steps without a call, by the working registers. -/
  | expands {w w1 w' : Work} {ops ops1 mid : List Op} {ps : List Part} {tx : List Byte} :
      (∀ s : State, s.cfg = c → s.smp = p → s.work = w → settle ops s = settle ops1 (s.atWork w1)) →
      Performs c p w1 ops1 ps tx w' mid → Performs c p w ops ps tx w' mid

namespace Performs
variable {c : Cfg} {p : Sampled} {w w' : Work} {ops mid : List Op} {ps : List Part} {tx : List Byte}

theorem single {ws : List WireItem} (h : Resends c p ops ws tx) (hq : ws.all (WireItem.has quiet) = true) (rest : List Op) :
    Performs c p w (ops ++ rest) [.items ws] tx w rest := by
  simpa using items h hq (done (w := w) (ops := rest))

theorem trans {w1 : Work} {end_ : List Op} {ps' : List Part} {tx' : List Byte} (h : Performs c p w ops ps tx w1 mid)
    (h' : Performs c p w1 mid ps' tx' w' end_) : Performs c p w ops (ps ++ ps') (tx ++ tx') w' end_ := by
  induction h with
  | done => exact h'
  | items hr hq _ ih => rw [List.append_assoc]; exact items hr hq (ih h')
  | wait _ ih => exact wait (ih h')
  | expands he _ ih => exact expands he (ih h')

/-- A command performed is at each of its waits in turn, having performed the parts before it. -/
theorem split {before after : List Part} {sp : PollSpec} (h : Performs c p w ops (before ++ .wait sp :: after) tx w' mid) :
    ∃ w1 ops1 tx1, tx1 <+: tx ∧ Performs c p w ops before tx1 w1 (.poll sp :: ops1) := by
  generalize hps : before ++ .wait sp :: after = ps at h
  induction h generalizing before with
  | done => simp at hps
  | @items _ _ _ _ _ ws ps tx0 _ hr hq _ ih =>
    cases before with
    | nil => simp at hps
    | cons part before =>
      obtain ⟨rfl, htail⟩ := List.cons.inj hps
      obtain ⟨w1, ops1, tx1, htx, h1⟩ := ih htail
      exact ⟨w1, ops1, tx0 ++ tx1, (List.prefix_append_right_inj tx0).2 htx, items hr hq h1⟩
  | @wait w0 _ ops0 _ _ _ _ _ ih =>
    cases before with
    | nil =>
      obtain ⟨hsp, -⟩ := List.cons.inj hps
      cases hsp
      exact ⟨w0, ops0, [], List.nil_prefix, done⟩
    | cons part before =>
      obtain ⟨rfl, htail⟩ := List.cons.inj hps
      obtain ⟨w1, ops1, tx1, htx, h1⟩ := ih htail
      exact ⟨w1, ops1, tx1, htx, wait h1⟩
  | expands he _ ih =>
    obtain ⟨w1, ops1, tx1, htx, h1⟩ := ih hps
    exact ⟨w1, ops1, tx1, htx, expands he h1⟩

end Performs

/-! ## The calls of some parts -/

section
variable (c : Cfg) (p : Sampled) (tm : Mode) (ps : List Part) (ks ms : List Nat)

theorem partsCalls_items (ws : List WireItem) :
    partsCalls c p tm (.items ws :: ps) ks ms =
      withRetries ms (wireCalls c tm ws) ++
        partsCalls c p (wireTm c tm ws) ps ks (retriesLeft ms (wireCalls c tm ws)) := by
  rw [partsCalls, partsWire, wireCalls_append, withRetries_append]
  rfl

theorem partsCalls_wait (sp : PollSpec) :
    partsCalls c p tm (.wait sp :: ps) ks ms =
      wireCalls c tm (waitReads c p sp (ks.headD 0)) ++
        partsCalls c p (wireTm c tm (waitReads c p sp (ks.headD 0))) ps ks.tail ms := by
  have once := wireCalls_once c tm (once_waitReads (c := c) (p := p) (sp := sp) (ks.headD 0))
  rw [partsCalls, partsWire, wireCalls_append, withRetries_append, withRetries_of_none once, retriesLeft_of_none once]
  rfl

theorem readsN_nil (old : Word) : readsN c [] ks old = old := by
  simp only [readsN, lastReads]
  cases c.pollImpl <;> rfl

theorem readsN_items (ws : List WireItem) (old : Word) : readsN c (.items ws :: ps) ks old = readsN c ps ks old := rfl

theorem readsN_wait (sp : PollSpec) (old : Word) :
    readsN c (.wait sp :: ps) ks old = readsN c ps ks.tail (readsN c [.wait sp] [ks.headD 0] old) := by
  simp only [readsN, lastReads]
  cases c.pollImpl with
  | assisted => rfl
  | reads => cases lastReads ps ks.tail <;> rfl

end

/-! ## The run of some parts -/

section
variable {c : Cfg} {p : Sampled} {w w' : Work} {ops mid : List Op} {ps : List Part} {tx : List Byte}

theorem Performs.mode (h : Performs c p w ops ps tx w' mid) (ks : List Nat) (tm : Mode) :
    modeAfter tm (wireCalls c tm (partsWire c p ps ks)) = wireTm c tm (partsWire c p ps ks) := by
  have append {tm : Mode} {ws ws' : List WireItem} (h1 : modeAfter tm (wireCalls c tm ws) = wireTm c tm ws)
      (h2 : ∀ tm, modeAfter tm (wireCalls c tm ws') = wireTm c tm ws') :
      modeAfter tm (wireCalls c tm (ws ++ ws')) = wireTm c tm (ws ++ ws') := by
    rw [wireCalls_append, modeAfter_append, h1, h2]
    simp only [wireTm, List.foldl_append]
  induction h generalizing ks tm with
  | done => rfl
  | items hr _ _ ih => exact append (hr.mode tm) fun tm => ih ks tm
  | wait _ ih => exact append (modeAfter_waitReads tm _) fun tm => ih ks.tail tm
  | expands _ _ ih => exact ih ks tm

/-- Run against answers that meet the calls of its parts, a command makes those calls and is at what follows them. -/
theorem Performs.runs (h : Performs c p w ops ps tx w' mid) : ∀ (ks ms : List Nat) (s : State) (as rest : List Answer),
    s.cfg = c → s.smp = p → s.work = w → tx <+: s.txFifo → (c.pollImpl = .reads → withinBudget c ps ks = true) →
    meets c (partsCalls c p s.tm ps ks ms) as = true →
    drive (as ++ rest) (settle ops s) =
      drive rest (settle mid
        ((s.waited (partsCalls c p s.tm ps ks ms) as tx.length (readsN c ps ks s.n)).atWork w')) := by
  induction h with
  | done =>
    rintro ks ms s as rest - - rfl - - hm
    obtain rfl := (meets_nil ..).1 hm
    rw [readsN_nil]
    exact congrArg (fun t => drive rest (settle _ t)) (waited_nil s).symm
  | @items w w' ops ops' mid ws ps tx tx' hr hq _ ih =>
    intro ks ms s as rest hc hp hw ht hb hm
    rw [partsCalls_items] at hm ⊢
    obtain ⟨as1, as2, rfl, hm1, hm2⟩ := (meets_append ..).1 hm
    obtain ⟨f, hf⟩ := ht
    have ht1 : tx <+: s.txFifo := ⟨tx' ++ f, by rw [← hf, List.append_assoc]⟩
    have ht2 : tx' <+: s.txFifo.drop tx.length := ⟨f, by rw [← hf, List.append_assoc, List.drop_left]⟩
    let s1 := s.waited (withRetries ms (wireCalls c s.tm ws)) as1 tx.length s.n
    have hs1 : s.did (withRetries ms (wireCalls c s.tm ws)) as1 tx.length = s1 :=
      did_eq_waited s (roles_withRetries rfl (roles_wireCalls rfl c s.tm ws hq) ms) as1 tx.length
    have htm : s1.tm = wireTm c s.tm ws := (modeAfter_withRetries ..).trans (hr.mode s.tm)
    rw [List.append_assoc, hr.runs ms s as1 _ ops' hc hp ht1 hm1, hs1, List.nil_append,
      ih ks (retriesLeft ms (wireCalls c s.tm ws)) s1 as2 rest hc hp hw ht2 hb (by rw [htm]; exact hm2), htm,
      readsN_items, List.length_append, ← waited_append s (meets_length hm1)]
    rfl
  | @wait w w' ops mid sp ps tx _ ih =>
    intro ks ms s as rest hc hp hw ht hb hm
    rw [partsCalls_wait] at hm ⊢
    simp only [withinBudget, Bool.and_eq_true, decide_eq_true_eq] at hb
    obtain ⟨as1, as2, rfl, hm1, hm2⟩ := (meets_append ..).1 hm
    let s1 := s.waited (wireCalls c s.tm (waitReads c p sp (ks.headD 0))) as1 0 (readsN c [.wait sp] [ks.headD 0] s.n)
    have htm : s1.tm = wireTm c s.tm (waitReads c p sp (ks.headD 0)) := modeAfter_waitReads ..
    rw [List.append_assoc, drive_wait (fun hi => (hb hi).1) hc hp hm1]
    show drive _ (settle ops s1) = _
    rw [ih ks.tail ms s1 as2 rest hc hp hw ht (fun hi => (hb hi).2) (by rw [htm]; exact hm2), htm, readsN_wait,
      ← waited_append_zero s (meets_length hm1)]
    rfl
  | @expands w w1 w' ops ops1 mid ps tx he _ ih =>
    intro ks ms s as rest hc hp hw ht hb hm
    rw [he s hc hp hw]
    exact ih ks ms (s.atWork w1) as rest hc hp rfl ht hb hm

/-- The calls of some parts and of reads in vain after them. -/
theorem partsCalls_pendingReads (tm : Mode) (h : Performs c p w ops ps tx w' mid) (ks ms : List Nat) (sp : PollSpec)
    (k : Nat) :
    withRetries ms (wireCalls c tm (partsWire c p ps ks ++ pendingReads c p sp k)) =
      partsCalls c p tm ps ks ms ++
        wireCalls c (modeAfter tm (partsCalls c p tm ps ks ms)) (pendingReads c p sp k) := by
  rw [wireCalls_append, withRetries_append, withRetries_of_none (wireCalls_once _ _ (once_pendingReads k)), partsCalls,
    modeAfter_withRetries, h.mode]

end

end Sys2Proof.Machine
end

section
/-! SUPPORT. Every command performs its parts (30_encoding.md R96): most are one bracket and a trailing wait; ENTER_QPI tests
a status byte between two brackets; ERASE is two sub-commands; WRITE unrolls its loop by its working registers. -/

namespace Sys2Proof.Machine

/-! ## What a command works with -/

/-- The flag a command switches (41_sequencer_poller.md R161). -/
def switchOf (i : Instr) : Option (Flag × Bool) :=
  match i with
  | .enter4b => some (.a4b, true)
  | .exit4b => some (.a4b, false)
  | .enterQpi => some (.qpiEn, true)
  | .exitQpi => some (.qpiEn, false)
  | .dtrEnable => some (.dtrEn, true)
  | .dtrDisable => some (.dtrEn, false)
  | _ => none

/-- The items after a command's parts: the switch of its flag, and its end. -/
def endOps (i : Instr) : List Op :=
  ((switchOf i).map fun x => Op.commit x.1 x.2).toList ++ [.finish .ok]

/-- The trailing wait as an item. -/
def waitOps (i : Instr) (s : State) : List Op := ((waitOf i s).map Op.poll).toList

/-- The bytes of TX a command uses: the whole FIFO, or none. -/
def usedTx (i : Instr) (s : State) : List Byte := if i.format = .fALD then s.txFifo else []

/-- What WRITE's working registers are after a command. -/
def workAfter (i : Instr) (s : State) : Work :=
  match i with
  | .write => { off := s.addr + s.len, rem := 0, srci := s.len }
  | _ => s.work

theorem workAfter_of_ne {i : Instr} (h : i ≠ .write) (s : State) : workAfter i s = s.work := by
  cases i with
  | write => exact absurd rfl h
  | _ => rfl

/-- The parts of a command before its trailing wait. -/
def mainParts (i : Instr) (s : State) : List Part :=
  match i with
  | .erase =>
    [.items (bracketWire s.cfg (s.sample .erase) { opc := .wren } 0 0 [] .plain), .wait (welSpec s.cfg),
      .items (s.bracket .erase (eraseOf s).1 [])]
  | _ => [.items (mainOf i s)]

theorem mainParts_of_ne {i : Instr} (h : i ≠ .erase) (s : State) : mainParts i s = [.items (mainOf i s)] := by
  cases i with
  | erase => exact absurd rfl h
  | _ => rfl

/-- All commands but WRITE have their last wait at the end. -/
theorem partsOf_eq {i : Instr} (h : i ≠ .write) (s : State) :
    partsOf i s = mainParts i s ++ ((waitOf i s).map Part.wait).toList := by
  cases i with
  | write => exact absurd rfl h
  | _ => rfl

theorem operandsGood_iff (i : Instr) (s : State) : operandsGood i s = true ↔
    illegal i s = false ∧ (i.format = .fALD → s.txFifo.length = s.len.toNat) ∧
      (i = .write → 0 < s.cfg.pageSize ∧ s.addr.toNat + s.len.toNat ≤ 2 ^ 32) := by
  simp only [operandsGood, Bool.and_eq_true, Bool.or_eq_true, bne_iff_ne, beq_iff_eq, decide_eq_true_eq,
    Bool.not_eq_true', ne_eq, and_assoc, imp_iff_not_or]

/-! ## Brackets -/

section
variable {c : Cfg} {p : Sampled} {d : CmdDesc} {addr addr2 : Word} {len : Nat} {tx used : List Byte}

theorem performs_bracket {w : Work} (h : DataFits p d len tx used .plain) (rest : List Op) :
    Performs c p w (bracketOps c p d addr addr2 len ++ rest) [.items (bracketWire c p d addr addr2 tx .plain)] used w rest :=
  .single (resends_bracket h) (silent_bracket c p d addr addr2 tx rfl) rest

/-- A bracket under the write-enable sub-command (48_composite.md R290, R292, R295). -/
theorem performs_enabled {w : Work} (h : DataFits p d len tx used .plain) (rest : List Op) :
    Performs c p w (subOps c p writeEnableDesc 0 0 0 ++ (bracketOps c p d addr addr2 len ++ rest))
      [.items (bracketWire c p { opc := .wren } 0 0 [] .plain), .wait (welSpec c),
        .items (bracketWire c p d addr addr2 tx .plain)] used w rest := by
  have enable : DataFits p writeEnableDesc 0 [] [] .plain := rfl
  have ops : subOps c p writeEnableDesc 0 0 0 ++ (bracketOps c p d addr addr2 len ++ rest) =
      bracketOps c p writeEnableDesc 0 0 0 ++ (.poll (welWait c) :: (bracketOps c p d addr addr2 len ++ rest)) := by
    simp only [subOps, tailOps, writeEnableDesc, List.nil_append, List.append_assoc, List.cons_append]
  rw [ops]
  exact (performs_bracket enable _).trans (.wait (performs_bracket h rest))

end

/-! ## Commands of one bracket -/

/-- The bytes a bracket transmits. -/
def txBytes (d : CmdDesc) (s : State) : List Byte :=
  match d.data with
  | .tx .arg1 => [s.arg]
  | .tx _ => s.txFifo
  | _ => []

section
variable {i : Instr} {s : State} {d : CmdDesc}

theorem mainOf_primitive (h : primitiveDesc i s.cfg = some d) :
    mainOf i s = bracketWire s.cfg (s.sample i) d s.addr s.addr2 (txBytes d s) .plain := by
  cases i <;> cases h <;> rfl

theorem tailOps_primitive (h : primitiveDesc i s.cfg = some d) :
    tailOps s.cfg d ++ [.finish .ok] = waitOps i s ++ endOps i := by
  cases i <;> cases h <;> rfl

/-- Whether a data kind takes nothing of HOST and gives SEQ nothing to keep. -/
def DataKind.receives (k : DataKind) : Bool :=
  match k with
  | .noData | .rx _ => true
  | .rxi | .tx _ => false

theorem dataFits_of_receives {p : Sampled} (h : d.data.receives = true) (tx : List Byte) (keep : Role) :
    DataFits p d p.len.toNat tx [] keep := by
  unfold DataFits
  cases hd : d.data with
  | noData => rfl
  | rx k => exact ⟨rfl, rfl⟩
  | rxi | tx _ => simp [hd, DataKind.receives] at h

theorem dataFits_primitive (h : primitiveDesc i s.cfg = some d) (hlen : i.format = .fALD → s.txFifo.length = s.len.toNat) :
    DataFits (s.sample i) d s.len.toNat (txBytes d s) (usedTx i s) .plain := by
  cases i <;> cases h
  case pageProgram | secProgram | pbWrite => exact .inl ⟨rfl, rfl, hlen rfl⟩
  case writeSr1 | writeSr2 | writeSr3 => exact .inr ⟨rfl, rfl, rfl⟩
  all_goals exact dataFits_of_receives rfl _ _

end

/-! ## ENTER_QPI -/

/-- One call with a role of its own among plain ones: its answer is the only one that a poll or SEQ takes a byte from. -/
theorem lastByte_single {c : Cfg} {pre post : List WireCall} {k : WireCall} (hpre : ∀ x ∈ pre, x.role = .plain)
    (hpost : ∀ x ∈ post, x.role = .plain) {as : List Answer} (hm : meets c (pre ++ k :: post) as = true) :
    ∃ a, k.role.met c a = true ∧ ∀ old, lastByte Role.kept (pre ++ k :: post) as old = (k.role.kept a).getD old := by
  obtain ⟨as1, as2, rfl, h1, h2⟩ := (meets_append ..).1 hm
  obtain ⟨a, as3, rfl, ha, h3⟩ := (meets_cons ..).1 h2
  refine ⟨a, ha, fun old => ?_⟩
  have hk : lastByte Role.kept [k] [a] old = (k.role.kept a).getD old := by
    simp only [lastByte, List.zip_cons_cons, List.zip_nil_right, List.filterMap_cons, List.filterMap_nil]
    cases k.role.kept a <;> rfl
  rw [lastByte_append _ (meets_length h1), lastByte_plain (fun _ => rfl) hpre, ← List.singleton_append,
    ← List.singleton_append (l := as3), lastByte_append _ rfl, hk, lastByte_plain (fun _ => rfl) hpost]

/-- The byte of status register 2 and its test (46_mode_reset.md R253 steps 2 and 3). -/
theorem runs_quadTest (c : Cfg) (p : Sampled) :
    Runs c p (bracketOps c p statusRead2Desc 0 0 0 ++ [.qeTest]) (status2Wire c p .quadTest) [] := by
  have hfits : DataFits p statusRead2Desc 0 [] [] .quadTest := ⟨rfl, rfl⟩
  have hrun : Runs c p (bracketOps c p statusRead2Desc 0 0 0) (status2Wire c p .quadTest) [] := runs_bracket hfits
  refine ⟨hrun.mode, fun s as rest k hc hp ht hm => ?_⟩
  let front := [WireItem.select, .phase (pdOpc p.qpi false) (c.opcode p.a4b .rdsr2) .plain]
  have plain {tm : Mode} {ws : List WireItem} (h : ws.all (WireItem.has (· == .plain)) = true) :
      ∀ x ∈ wireCalls c tm ws, x.role = .plain := fun x hx => by
    simpa using roles_wireCalls (P := (· == .plain)) rfl c tm ws h x hx
  have hpre : ∀ x ∈ wireCalls c s.tm front ++ ensureCalls true (wireTm c s.tm front) (pdRxi p.qpi).want,
      x.role = .plain := by
    refine List.forall_mem_append.2 ⟨plain rfl, ?_⟩
    unfold ensureCalls
    split <;> simp
  have hcalls : wireCalls c s.tm (status2Wire c p .quadTest) =
      (wireCalls c s.tm front ++ ensureCalls true (wireTm c s.tm front) (pdRxi p.qpi).want) ++
        { call := .transfer c.dummyByte true, role := .quadTest, data := true } ::
          [{ call := .selectHigh, role := .plain }] := by
    have e : status2Wire c p .quadTest = front ++ ([.phase (pdRxi p.qpi) c.dummyByte .quadTest true] ++ [.deselect]) := rfl
    rw [e, wireCalls_append]
    simp [wireCalls, WireItem.calls, pdRxi]
  rw [List.append_assoc, hrun.runs s as rest _ hc hp ht hm]
  obtain ⟨a, hmet, hkept⟩ := lastByte_single hpre (by simp) (hcalls ▸ hm)
  have hsr : (s.did (wireCalls c s.tm (status2Wire c p .quadTest)) as 0).sr = byteOf a := by
    show lastByte Role.kept (wireCalls c s.tm (status2Wire c p .quadTest)) as s.sr = byteOf a
    rw [hcalls, hkept]
    rfl
  have hquad : quadEnabled c (byteOf a) = true := by
    simp only [Role.met, Bool.and_eq_true] at hmet
    exact hmet.2
  simp only [List.length_nil, List.nil_append, List.singleton_append, settle, hsr, did_cfg, hc, hquad, if_true]

/-! ## Commands without a wait inside -/

theorem subOps_bare {d : CmdDesc} (hc : d.commit = none) (hp : d.post = .noPoll) (c : Cfg) (p : Sampled)
    (addr addr2 : Word) (len : Nat) : subOps c p d addr addr2 len = bracketOps c p d addr addr2 len := by
  simp [subOps, tailOps, hc, hp]

theorem budgetClassOf_legal {arg : Byte} (h : arg.toNat ≤ 7) :
    budgetClassOf arg =
      some ([BudgetClass.wel, .program, .erase4k, .erase32k, .erase64k, .eraseChip, .srWrite, .checksum].getD arg.toNat
        .wel) := by
  rw [budgetClassOf, List.getD_eq_getElem?_getD, List.getElem?_eq_getElem (by simp; omega)]
  rfl

theorem readVariantOf_sample (s : State) (i : Instr) : readVariantOf s.cfg (s.sample i) = readCommandFor s := by
  cases hq : s.qpiEn <;> cases hd : s.dtrEn <;> simp [readVariantOf, readCommandFor, State.sample, hq, hd]

/-- A command without a wait inside: its items up to its trailing wait, or its end, run as `mainOf`. -/
def RunsMain (i : Instr) (s : State) : Prop :=
  ∃ ops, opsOf i s.cfg (s.sample i) = ops ++ (waitOps i s ++ endOps i) ∧
    Resends s.cfg (s.sample i) ops (mainOf i s) (usedTx i s) ∧ (mainOf i s).all (WireItem.has quiet) = true

section
variable {i : Instr} {s : State}

theorem runsMain_bracket {d : CmdDesc} {addr addr2 : Word} {len : Nat} {tx : List Byte}
    (hops : opsOf i s.cfg (s.sample i) =
      bracketOps s.cfg (s.sample i) d addr addr2 len ++ (waitOps i s ++ endOps i))
    (hmain : mainOf i s = bracketWire s.cfg (s.sample i) d addr addr2 tx .plain)
    (hf : DataFits (s.sample i) d len tx (usedTx i s) .plain) : RunsMain i s :=
  ⟨_, hops, by rw [hmain]; exact resends_bracket hf, by rw [hmain]; exact silent_bracket _ _ _ _ _ _ rfl⟩

/-- A command that makes no call before its trailing wait or its end. -/
theorem runsMain_empty (hops : opsOf i s.cfg (s.sample i) = waitOps i s ++ endOps i) (hmain : mainOf i s = [])
    (htx : usedTx i s = []) : RunsMain i s :=
  ⟨[], hops, by rw [hmain, htx]; exact (Runs.nil _ _).resends (by simp), by rw [hmain]; rfl⟩

theorem runsMain_primitive {d : CmdDesc} (hd : primitiveDesc i s.cfg = some d)
    (hlen : i.format = .fALD → s.txFifo.length = s.len.toNat) : RunsMain i s :=
  runsMain_bracket
    (by rw [opsOf_primitive _ hd, ← tailOps_primitive hd, subOps, List.append_assoc]; rfl) (mainOf_primitive hd)
    (dataFits_primitive hd hlen)

end

theorem runsMain_waitReady {s : State} (h : illegal .waitReady s = false) : RunsMain .waitReady s := by
  have harg : s.arg.toNat ≤ 7 := by simpa [illegal] using h
  refine runsMain_empty ?_ rfl rfl
  simp only [opsOf, show (s.sample .waitReady).arg = s.arg from rfl, budgetClassOf_legal harg]
  rfl

theorem runsMain_read (s : State) : RunsMain .read s := by
  refine runsMain_bracket (d := readDesc (readCommandFor s)) (addr := s.addr) (addr2 := 0) (len := s.len.toNat) (tx := [])
    ?_ rfl ⟨rfl, rfl⟩
  simp only [opsOf, readVariantOf_sample, subOps_bare (d := readDesc (readCommandFor s)) rfl rfl]
  rfl

theorem runsMain_getId (s : State) : RunsMain .getId s :=
  runsMain_bracket (d := readJedecIdDesc s.cfg) (addr := 0) (addr2 := 0) (len := 0) (tx := [])
    (by simp only [opsOf, subOps_bare (d := readJedecIdDesc s.cfg) rfl rfl]; rfl) rfl ⟨rfl, rfl⟩

theorem runsMain_getStatus (s : State) : RunsMain .getStatus s :=
  runsMain_bracket (d := readSr1Desc) (addr := 0) (addr2 := 0) (len := 0) (tx := [])
    (by simp only [opsOf, subOps_bare (d := readSr1Desc) rfl rfl]; rfl) rfl ⟨rfl, rfl⟩

theorem runsMain_softReset (s : State) : RunsMain .softReset s := by
  have first : DataFits (s.sample .softReset) resetEnableDesc 0 [] [] .plain := rfl
  have second : DataFits (s.sample .softReset) resetDesc 0 [] [] .plain := rfl
  refine ⟨_, ?_, (resends_bracket (d := resetEnableDesc) (addr := 0) (addr2 := 0) (len := 0) first).append
    (resends_bracket (d := resetDesc) (addr := 0) (addr2 := 0) (len := 0) second), ?_⟩
  · simp only [opsOf, subOps_bare (d := resetEnableDesc) rfl rfl, subOps_bare (d := resetDesc) rfl rfl]
    rfl
  · exact (List.all_append ..).trans (by
      rw [Bool.and_eq_true]
      exact ⟨silent_bracket _ _ _ _ _ _ rfl, silent_bracket _ _ _ _ _ _ rfl⟩)

theorem runsMain_enterQpi (s : State) : RunsMain .enterQpi s := by
  have switch : DataFits (s.sample .enterQpi) enterQpiDesc 0 [] [] .plain := rfl
  have test := (runs_quadTest s.cfg (s.sample .enterQpi)).resends (by simp [status2Wire, WireItem.once, pdOpc, pdRxi])
  refine ⟨_, ?_, test.append (resends_bracket (d := enterQpiDesc) (addr := 0) (addr2 := 0) (len := 0) switch), ?_⟩
  · simp only [opsOf, subOps, List.append_assoc]
    rfl
  · exact (List.all_append ..).trans (by
      rw [Bool.and_eq_true]
      exact ⟨rfl, silent_bracket _ _ _ _ _ _ rfl⟩)

theorem runsMain_all {i : Instr} {s : State} (h : operandsGood i s = true) (hw : i ≠ .write) (he : i ≠ .erase) :
    RunsMain i s := by
  obtain ⟨hlegal, hlen, -⟩ := (operandsGood_iff i s).1 h
  cases hd : primitiveDesc i s.cfg with
  | some d => exact runsMain_primitive hd hlen
  | none =>
    cases i with
    | write => exact absurd rfl hw
    | erase => exact absurd rfl he
    | waitReady => exact runsMain_waitReady hlegal
    | dtrEnable | dtrDisable => exact runsMain_empty rfl rfl rfl
    | getId => exact runsMain_getId s
    | getStatus => exact runsMain_getStatus s
    | read => exact runsMain_read s
    | softReset => exact runsMain_softReset s
    | enterQpi => exact runsMain_enterQpi s
    | _ => cases hd

/-! ## ERASE -/

/-- The descriptor ARG names is the one of the catalogue (48_composite.md R295, 30_encoding.md R98). -/
theorem eraseDescOf_arg (s : State) :
    ∃ ks, eraseDescOf s.arg = { (eraseOf s).1 with post := .pollBusy (eraseOf s).2, checks := ks } ∧
      ((eraseOf s).1.addr = .noAddr ∨ (eraseOf s).1.addr = .a4bSized) ∧ (eraseOf s).1.data = .noData ∧
      (eraseOf s).1.commit = none := by
  by_cases h0 : s.arg = 0
  · have hd : eraseDescOf s.arg = sectorEraseDesc := by simp [eraseDescOf, h0]
    have he : eraseOf s = ({ opc := .se, addr := .a4bSized }, .erase4k) := by simp [eraseOf, h0]
    rw [hd, he]
    exact ⟨_, rfl, .inr rfl, rfl, rfl⟩
  by_cases h1 : s.arg = 1
  · have hd : eraseDescOf s.arg = block32EraseDesc := by simp [eraseDescOf, h1]
    have he : eraseOf s = ({ opc := .be32, addr := .a4bSized }, .erase32k) := by simp [eraseOf, h1]
    rw [hd, he]
    exact ⟨_, rfl, .inr rfl, rfl, rfl⟩
  by_cases h2 : s.arg = 2
  · have hd : eraseDescOf s.arg = block64EraseDesc := by simp [eraseDescOf, h2]
    have he : eraseOf s = ({ opc := .be64, addr := .a4bSized }, .erase64k) := by simp [eraseOf, h2]
    rw [hd, he]
    exact ⟨_, rfl, .inr rfl, rfl, rfl⟩
  · have hd : eraseDescOf s.arg = chipEraseDesc := by rw [eraseDescOf, if_neg h0, if_neg h1, if_neg h2]
    have he : eraseOf s = ({ opc := .ce }, .eraseChip) := by
      unfold eraseOf
      split
      · next h => exact absurd (BitVec.eq_of_toNat_eq h) h0
      · next h => exact absurd (BitVec.eq_of_toNat_eq h) h1
      · next h => exact absurd (BitVec.eq_of_toNat_eq h) h2
      · rfl
    rw [hd, he]
    exact ⟨_, rfl, .inl rfl, rfl, rfl⟩

theorem performs_erase (s : State) (w : Work) :
    Performs s.cfg (s.sample .erase) w (opsOf .erase s.cfg (s.sample .erase)) (mainParts .erase s) [] w
      (waitOps .erase s ++ endOps .erase) := by
  obtain ⟨ks, hd, haddr, hdata, hcommit⟩ := eraseDescOf_arg s
  let d := (eraseOf s).1
  have hf : DataFits (s.sample .erase) d 0 [] [] .plain := by
    unfold DataFits
    rw [hdata]
  have hwire : s.bracket .erase d [] = bracketWire s.cfg (s.sample .erase) d s.addr 0 [] .plain := by
    rcases haddr with h | h <;> simp only [State.bracket, bracketWire, d, h, addrPhaseBytes]
  have hops : opsOf .erase s.cfg (s.sample .erase) = subOps s.cfg (s.sample .erase) writeEnableDesc 0 0 0 ++
      (bracketOps s.cfg (s.sample .erase) d s.addr 0 0 ++ (waitOps .erase s ++ endOps .erase)) := by
    simp only [opsOf, show (s.sample .erase).arg = s.arg from rfl, hd, subOps, tailOps, hcommit, List.append_assoc]
    rfl
  rw [hops, mainParts, hwire]
  exact performs_enabled hf _

/-- Every command but WRITE performs its parts up to its trailing wait, or its end. -/
theorem performs_main {i : Instr} {s : State} (h : operandsGood i s = true) (hw : i ≠ .write) (w : Work) :
    Performs s.cfg (s.sample i) w (opsOf i s.cfg (s.sample i)) (mainParts i s) (usedTx i s) w
      (waitOps i s ++ endOps i) := by
  by_cases he : i = .erase
  · subst he
    exact performs_erase s w
  · obtain ⟨ops, hops, hrun, hq⟩ := runsMain_all h hw he
    rw [hops, mainParts_of_ne he]
    exact .single hrun hq _

/-! ## WRITE -/

/-- One chunk of WRITE (48_composite.md R292 step 4). -/
def chunkParts (c : Cfg) (p : Sampled) (fifo : List Byte) (k : Nat × Nat × Nat) : List Part :=
  enabledParts c p
    (bracketWire c p { opc := .pp, addr := .a4bSized, data := .tx .len } (BitVec.ofNat 32 k.1) 0
      ((fifo.drop k.2.1).take k.2.2) .plain)
    .program

theorem settle_loadWrite (rest : List Op) (s : State) :
    settle (.loadWrite :: rest) s = settle rest (s.atWork { off := s.smp.addr, rem := s.smp.len, srci := 0 }) := rfl

theorem settle_chunk_done {s : State} (h : s.rem = 0) (rest : List Op) : settle (.chunk :: rest) s = settle rest s := by
  rw [settle, if_pos h]

theorem settle_chunk_next {s : State} {z : Nat} (h : s.rem ≠ 0) (hz : chunkSize s.cfg.pageSize s.off.toNat s.rem.toNat = z)
    (rest : List Op) :
    settle (.chunk :: rest) s = settle (chunkOps s.cfg s.smp s.off z ++ (.advance z :: .chunk :: rest)) s := by
  subst hz
  rw [settle, if_neg h]
  exact congrArg (fun ops => { s with todo := ops }) (List.append_assoc ..)

section
variable {c : Cfg} {p : Sampled} {w w' : Work} {ops mid : List Op} {ps : List Part} {tx : List Byte}

theorem performs_chunk {fifo : List Byte} {off src z : Nat} (hz : src + z ≤ fifo.length) (rest : List Op) :
    Performs c p w (chunkOps c p (BitVec.ofNat 32 off) z ++ rest) (chunkParts c p fifo (off, src, z))
      ((fifo.drop src).take z) w rest := by
  have hlen : ((fifo.drop src).take z).length = z := by
    rw [List.length_take, List.length_drop]
    omega
  have hf : DataFits p (pageProgramDesc c) z ((fifo.drop src).take z) ((fifo.drop src).take z) .plain :=
    .inl ⟨rfl, rfl, hlen⟩
  have hops : chunkOps c p (BitVec.ofNat 32 off) z ++ rest = subOps c p writeEnableDesc 0 0 0 ++
      (bracketOps c p (pageProgramDesc c) (BitVec.ofNat 32 off) 0 z ++ (.poll (busySpec c .program) :: rest)) := by
    simp only [chunkOps, subOps, List.append_assoc]
    rfl
  have wait : Performs c p w (.poll (busySpec c .program) :: rest) [.wait (busySpec c .program)] [] w rest := .wait .done
  rw [hops, ← List.append_nil ((fifo.drop src).take z)]
  exact (performs_enabled hf _).trans wait

/-- WRITE's working registers as numbers. -/
def workOf (off src rem : Nat) : Work :=
  { off := BitVec.ofNat 32 off, rem := BitVec.ofNat 32 rem, srci := BitVec.ofNat 32 src }

theorem settle_chunk_workOf_done {s : State} {off src : Nat} (hw : s.work = workOf off src 0) (rest : List Op) :
    settle (.chunk :: rest) s = settle rest (s.atWork (workOf off src 0)) := by
  have hrem : s.rem = 0 := congrArg Work.rem hw
  rw [settle_chunk_done hrem, ← hw, atWork_work]

theorem settle_chunk_workOf {s : State} {off src rem : Nat} (hw : s.work = workOf off src rem) (h0 : rem ≠ 0)
    (hoff : off < 2 ^ 32) (hrem : rem < 2 ^ 32) (rest : List Op) :
    let z := chunkSize s.cfg.pageSize off rem
    settle (.chunk :: rest) s =
      settle (chunkOps s.cfg s.smp (BitVec.ofNat 32 off) z ++ (.advance z :: .chunk :: rest))
        (s.atWork (workOf off src rem)) := by
  intro z
  have hoffS : s.off = BitVec.ofNat 32 off := congrArg Work.off hw
  have hremS : s.rem = BitVec.ofNat 32 rem := congrArg Work.rem hw
  have hoffN : s.off.toNat = off := by rw [hoffS, BitVec.toNat_ofNat, Nat.mod_eq_of_lt hoff]
  have hremN : s.rem.toNat = rem := by rw [hremS, BitVec.toNat_ofNat, Nat.mod_eq_of_lt hrem]
  have hne : s.rem ≠ 0 := fun h => h0 (by rw [← hremN, h]; rfl)
  rw [settle_chunk_next (z := z) hne (by rw [hoffN, hremN]), hoffS, ← hw, atWork_work]

theorem settle_advance_workOf {s : State} {off src rem z : Nat} (hw : s.work = workOf off src rem) (hz : z ≤ rem)
    (h32 : rem < 2 ^ 32) (rest : List Op) :
    settle (.advance z :: rest) s = settle rest (s.atWork (workOf (off + z) (src + z) (rem - z))) := by
  have hoffS : s.off = BitVec.ofNat 32 off := congrArg Work.off hw
  have hremS : s.rem = BitVec.ofNat 32 rem := congrArg Work.rem hw
  have hsrcS : s.srci = BitVec.ofNat 32 src := congrArg Work.srci hw
  have hrem : BitVec.ofNat 32 rem - BitVec.ofNat 32 z = BitVec.ofNat 32 (rem - z) :=
    BitVec.ofNat_sub_ofNat_of_le rem z (by omega) hz
  simp only [settle, advanceChunk, State.atWork, workOf, hoffS, hremS, hsrcS, hrem, BitVec.ofNat_add]

/-- WRITE's loop, its registers being numbers below 2^32 while a byte is left (48_composite.md R292, R293). -/
theorem performs_chunks (hpage : 0 < c.pageSize) (fifo : List Byte) (rest : List Op) (fuel : Nat) (off src rem : Nat)
    (hf : rem ≤ fuel) (hoff : off + rem ≤ 2 ^ 32) (hsrc : src + rem ≤ fifo.length) (h32 : rem < 2 ^ 32) :
    Performs c p (workOf off src rem) (.chunk :: rest)
      ((chunksFrom c.pageSize fuel off src rem).flatMap (chunkParts c p fifo)) ((fifo.drop src).take rem)
      (workOf (off + rem) (src + rem) 0) rest := by
  have finished (off src : Nat) :
      Performs c p (workOf off src 0) (.chunk :: rest) [] [] (workOf (off + 0) (src + 0) 0) rest :=
    .expands (fun s _ _ hw => settle_chunk_workOf_done hw rest) .done
  induction fuel generalizing off src rem with
  | zero =>
    obtain rfl : rem = 0 := by omega
    exact finished off src
  | succ fuel ih =>
    by_cases h0 : rem = 0
    · subst h0
      simpa [chunksFrom] using finished off src
    · let z := chunkSize c.pageSize off rem
      have hmod : off % c.pageSize < c.pageSize := Nat.mod_lt _ hpage
      have hz : 0 < z ∧ z ≤ rem := by
        simp only [z, chunkSize]
        omega
      have hchunks : chunksFrom c.pageSize (fuel + 1) off src rem =
          (off, src, z) :: chunksFrom c.pageSize fuel (off + z) (src + z) (rem - z) := by
        rw [chunksFrom, if_neg h0]
        rfl
      have htx : (fifo.drop src).take rem = (fifo.drop src).take z ++ (fifo.drop (src + z)).take (rem - z) := by
        rw [← List.drop_drop, ← List.take_add, Nat.add_sub_cancel' hz.2]
      have next := ih (off + z) (src + z) (rem - z) (by omega) (by omega) (by omega) (by omega)
      rw [show off + z + (rem - z) = off + rem by omega, show src + z + (rem - z) = src + rem by omega] at next
      have first : Performs c p (workOf off src rem)
          (chunkOps c p (BitVec.ofNat 32 off) z ++ (.advance z :: .chunk :: rest)) (chunkParts c p fifo (off, src, z))
          ((fifo.drop src).take z) (workOf off src rem) (.advance z :: .chunk :: rest) := performs_chunk (by omega) _
      rw [hchunks, List.flatMap_cons, htx]
      refine .expands (fun s hc hp hw => ?_)
        (first.trans (.expands (fun s _ _ hw => settle_advance_workOf hw hz.2 h32 _) next))
      subst hc hp
      exact settle_chunk_workOf hw h0 (by omega) h32 rest

end

theorem performs_write {s : State} (h : operandsGood .write s = true) (w : Work) :
    Performs s.cfg (s.sample .write) w (opsOf .write s.cfg (s.sample .write)) (partsOf .write s) s.txFifo
      (workAfter .write s) (endOps .write) := by
  obtain ⟨-, hlen, hpage⟩ := (operandsGood_iff .write s).1 h
  obtain ⟨hpage, hsum⟩ := hpage rfl
  have hlen : s.txFifo.length = s.len.toNat := hlen rfl
  have hword (v : Word) : BitVec.ofNat 32 v.toNat = v := BitVec.eq_of_toNat_eq (by simp)
  have hstart : workOf s.addr.toNat 0 s.len.toNat = { off := s.addr, rem := s.len, srci := 0 } := by
    rw [workOf, hword, hword]
    rfl
  have hend : workOf (s.addr.toNat + s.len.toNat) (0 + s.len.toNat) 0 = workAfter .write s := by
    rw [workOf, BitVec.ofNat_add, Nat.zero_add, hword, hword]
    rfl
  have htx : (s.txFifo.drop 0).take s.len.toNat = s.txFifo := by rw [List.drop_zero, ← hlen, List.take_length]
  have loop := performs_chunks (p := s.sample .write) hpage s.txFifo [.finish .ok] s.len.toNat s.addr.toNat 0 s.len.toNat
    (le_refl _) hsum (by omega) s.len.isLt
  rw [htx, hstart, hend] at loop
  exact .expands (fun t _ hp _ => by rw [opsOf, settle_loadWrite, hp]; rfl) loop

/-- Every command performs its parts, and has then only to write its flag and to end. -/
theorem performs_parts {i : Instr} {s : State} (h : operandsGood i s = true) :
    Performs s.cfg (s.sample i) s.work (opsOf i s.cfg (s.sample i)) (partsOf i s) (usedTx i s) (workAfter i s)
      (endOps i) := by
  by_cases hw : i = .write
  · subst hw
    exact performs_write h s.work
  · rw [partsOf_eq hw, workAfter_of_ne hw, ← List.append_nil (usedTx i s)]
    refine (performs_main h hw s.work).trans ?_
    unfold waitOps
    cases waitOf i s with
    | none => exact .done
    | some sp => exact .wait .done

end Sys2Proof.Machine
end

section
/-! THEOREMS. Waits (O42, O43, 41_sequencer_poller.md R167 to R175): a command goes on when the awaited bit shows within the
budget, and ends with the wait's error when the budget is used up. Both follow from `Performs`: the first from the whole
command, the second from the parts before the wait. -/

namespace Sys2Proof.Machine

/-! ## A command's run, and its end -/

section
variable {i : Instr} {s : State} {ps : List Part} {tx : List Byte} {w : Work} {mid : List Op}

/-- A command issued with good operands is, after its first parts, at what follows them. -/
theorem exec_performs (hr : s.run = false) (hgood : operandsGood i s = true)
    (h : Performs s.cfg (s.sample i) s.work (opsOf i s.cfg (s.sample i)) ps tx w mid) (htx : tx <+: s.txFifo)
    {ks ms : List Nat} {as rest : List Answer} (hb : s.cfg.pollImpl = .reads → withinBudget s.cfg ps ks = true)
    (hx : s.xp = as ++ rest)
    (hm : meets s.cfg (partsCalls s.cfg (s.sample i) s.tm ps ks ms) as = true) :
    exec i s = .next (drive rest (settle mid
      (((sampleAndClear i s).waited (partsCalls s.cfg (s.sample i) s.tm ps ks ms) as tx.length
        (readsN s.cfg ps ks s.n)).atWork w))) := by
  have hk := (checks_legal i s).2 ((operandsGood_iff i s).1 hgood).1
  rw [exec_eq]
  rcases runCommand_cases i (checksOf i s.cfg) (opsOf i) s with ⟨h1, -⟩ | ⟨-, h2, -⟩ | ⟨-, -, h3⟩
  · simp [hr] at h1
  · have : checksHold (checksOf i s.cfg) s.cfg (s.sample i) = false := h2
    simp [hk] at this
  · rw [h3, hx]
    exact congrArg _ (h.runs ks ms (sampleAndClear i s) as rest rfl rfl rfl htx hb hm)

end

/-- A finished command uses no more answers. -/
theorem drive_finish (as : List Answer) (r : Result) (s : State) : drive as (finish r s) = { finish r s with xp := as } :=
  drive_stuck (by rw [pendingCall, finish_todo]) as

/-- A command's use of the TX operand. -/
def spentTx (i : Instr) (t : State) : State := if i.format = .fALD then t.txDone else t

/-- The flag a command switches, written. -/
def switched (i : Instr) (t : State) : State := ((switchOf i).map fun x => setFlag x.1 x.2 t).getD t

theorem settle_endOps (i : Instr) (t : State) : settle (endOps i) t = finish .ok (switched i t) := by
  unfold endOps switched
  cases switchOf i <;> rfl

/-- A command's own effect: its flag, its TX, WRITE's working registers. -/
theorem ownEffect_eq (i : Instr) (s t : State) (ha : t.addr = s.addr) (hl : t.len = s.len) (hw : t.work = s.work) :
    ownEffect i t = switched i ((spentTx i t).atWork (workAfter i s)) := by
  cases i <;> simp only [ownEffect, workAfter, ← ha, ← hl, ← hw] <;> rfl

/-- A command that has made the calls `cs`, apart from its own effect. -/
theorem waited_ended {i : Instr} {s : State} (hgood : operandsGood i s = true) (r : Result) (cs : List WireCall)
    (as rest : List Answer) (n : Word) :
    { (sampleAndClear i s).waited cs as (usedTx i s).length n with
      result := r, run := false, done := true, todo := [], xp := rest } =
    spentTx i { s.completedBy i cs as rest with result := r, n := n } := by
  have hlen := ((operandsGood_iff i s).1 hgood).2.1
  simp only [State.waited, State.did, State.completedBy, sampleAndClear, State.sample, sumInto_zero, List.nil_append,
    usedTx, spentTx, State.txDone]
  split
  · next hf => simp [hlen hf]
  · simp

theorem switched_ended (i : Instr) (r : Result) (rest : List Answer) (t : State) :
    { switched i t with result := r, run := false, done := true, todo := [], xp := rest } =
      switched i { t with result := r, run := false, done := true, todo := [], xp := rest } := by
  unfold switched
  cases switchOf i with
  | none => rfl
  | some x =>
    obtain ⟨f, v⟩ := x
    cases f <;> rfl

theorem switched_smp (i : Instr) (t : State) : (switched i t).smp = t.smp := by
  unfold switched
  cases switchOf i with
  | none => rfl
  | some x => exact (quiet_setFlag x.1 x.2 t).smp

theorem switched_txFifo (i : Instr) (t : State) : (switched i t).txFifo = t.txFifo := by
  unfold switched
  cases switchOf i with
  | none => rfl
  | some x => exact setFlag_txFifo x.1 x.2 t

theorem usedTx_prefix (i : Instr) (s : State) : usedTx i s <+: s.txFifo := by
  unfold usedTx
  split
  · exact List.prefix_refl _
  · exact List.nil_prefix

/-- A command that has handed over its bytes of TX ends without dropping any. -/
theorem finish_spent {i : Instr} {s t : State} (r : Result) (hs : t.smp = s.sample i)
    (ht : t.txFifo = s.txFifo.drop (usedTx i s).length) :
    finish r t = { t with result := r, run := false, done := true, todo := [] } := by
  refine finish_eq fun hf => ?_
  have hf : i.format = .fALD := by rw [hs] at hf; exact hf
  rw [ht, usedTx, if_pos hf, List.drop_length]

/-! ## O42 -/

theorem completesHowever (i : Instr) : CompletesHowever i := by
  intro s ks ms as rest hr hgood hb hx cs hm
  have hrun := exec_performs hr hgood (performs_parts hgood) (usedTx_prefix i s) (fun _ => hb) hx hm
  rw [hrun, settle_endOps, drive_finish, finish_spent .ok (switched_smp i _) (switched_txFifo i _),
    ownEffect_eq i s { s.completedBy i cs as rest with n := _ } rfl rfl rfl]
  refine congrArg _ ((switched_ended i .ok rest _).trans (congrArg (switched i) ?_))
  exact congrArg (fun t => State.atWork t (workAfter i s))
    (waited_ended hgood .ok cs as rest (readsN s.cfg (partsOf i s) ks s.n))

theorem waitReads_zero (c : Cfg) (p : Sampled) (sp : PollSpec) : waitReads c p sp 0 = waitWire c p sp := by
  unfold waitReads waitWire
  cases c.pollImpl <;> rfl

/-- The parts before a trailing wait, every wait among them ended by its first read, are `mainOf`. -/
theorem partsWire_mainParts (i : Instr) (hw : i ≠ .write) (s : State) :
    partsWire s.cfg (s.sample i) (mainParts i s) [] = mainOf i s := by
  by_cases he : i = .erase
  · subst he
    simp only [mainParts, partsWire, List.headD_nil, waitReads_zero, List.append_nil]
    exact (List.append_assoc ..).symm
  · rw [mainParts_of_ne he, partsWire, partsWire, List.append_nil]

/-- The reads in vain of each wait of a command: `k` in its trailing wait, none before. -/
def trailingReads (i : Instr) (k : Nat) : List Nat :=
  match i with
  | .erase => [0, k]
  | _ => [k]

section
variable {i : Instr} {s : State} {sp : PollSpec}

theorem ne_write_of_waitOf (h : waitOf i s = some sp) : i ≠ .write := by
  rintro rfl
  cases h

theorem partsOf_waiting (h : waitOf i s = some sp) : partsOf i s = mainParts i s ++ [.wait sp] := by
  rw [partsOf_eq (ne_write_of_waitOf h), h]
  rfl

theorem switchOf_waiting (h : waitOf i s = some sp) : switchOf i = none := by
  cases i with
  | enter4b | exit4b | enterQpi | exitQpi | dtrEnable | dtrDisable => cases h
  | _ => rfl

/-- The trailing wait's reads, as the parts of the command have them. -/
theorem trailing_parts (h : waitOf i s = some sp) (k : Nat) :
    partsWire s.cfg (s.sample i) (partsOf i s) (trailingReads i k) =
        mainOf i s ++ waitReads s.cfg (s.sample i) sp k ∧
      lastReads (partsOf i s) (trailingReads i k) = some (k + 1) ∧
      ((∀ b, 0 < s.cfg.budget b) → k < s.cfg.budget sp.cls → k < 2 ^ 32 →
        withinBudget s.cfg (partsOf i s) (trailingReads i k) = true) := by
  rw [partsOf_waiting h]
  by_cases he : i = .erase
  · subst he
    refine ⟨?_, rfl, fun hb hk h32 => ?_⟩
    · rw [← partsWire_mainParts .erase (by simp) s]
      simp [mainParts, partsWire, trailingReads]
    · simpa [mainParts, withinBudget, trailingReads, hb, hk] using h32
  · have hk : trailingReads i k = [k] := by
      cases i with
      | erase => exact absurd rfl he
      | _ => rfl
    rw [mainParts_of_ne he, hk]
    refine ⟨?_, rfl, fun hb hk h32 => ?_⟩
    · simp [partsWire]
    · simpa [withinBudget, hk] using h32

end

theorem waitsUntilReady (i : Instr) : WaitsUntilReady i := by
  intro s sp k as rest hr hi hb hgood hw hk h32 hx ws hm
  obtain ⟨hwire, hlast, hbudget⟩ := trailing_parts hw k
  have hreads : waitReads s.cfg (s.sample i) sp k =
      pendingReads s.cfg (s.sample i) sp k ++ statusWire s.cfg (s.sample i) (.polled sp) := by
    simp only [waitReads, hi]
  have hcalls : partsCalls s.cfg (s.sample i) s.tm (partsOf i s) (trailingReads i k) [] = wireCalls s.cfg s.tm ws := by
    rw [partsCalls, withRetries_nil, hwire, hreads, ← List.append_assoc]
  have hN : readsN s.cfg (partsOf i s) (trailingReads i k) s.n = BitVec.ofNat 32 (k + 1) := by
    simp only [readsN, hi, hlast]
  have ends := completesHowever i s (trailingReads i k) [] as rest hr hgood (hbudget hb hk (by omega)) hx
    (by rw [hcalls]; exact hm)
  rw [ends, hcalls, hN]
  rfl

/-- Settles O42: the whole command performs its parts, WRITE's two waits for each chunk among them. -/
theorem waitsReadUntilTheBitShows : Obligations.WaitsReadUntilTheBitShows := ⟨waitsUntilReady, completesHowever⟩

/-! ## O43 -/

/-- A command that has made the calls `cs`, and then the events `es`, and has ended with `e`. -/
theorem finish_endedWith {i : Instr} {s : State} (hgood : operandsGood i s = true) {tx : List Byte}
    (htx : tx <+: usedTx i s) (e : Result) (cs : List WireCall) (as rest : List Answer) (n : Word) (w : Work) (l : Byte)
    (es : List Event) :
    let u := ((sampleAndClear i s).waited cs as tx.length n).atWork w
    s.endedWith { finish e { u with lastSr := l, trace := u.trace ++ es } with xp := rest } i e cs as es := by
  intro u
  have hlen := ((operandsGood_iff i s).1 hgood).2.1
  have hfifo : (finish e { u with lastSr := l, trace := u.trace ++ es }).txFifo =
      if i.format = .fALD then [] else s.txFifo := by
    rw [finish_txFifo]
    show (if i.format = .fALD then
      if (s.txFifo.drop tx.length).length ≤ s.len.toNat - (0 + tx.length) then [] else _ else s.txFifo.drop tx.length) = _
    split
    · next hf => rw [if_pos (by rw [List.length_drop, hlen hf]; omega)]
    · next hf =>
      rw [usedTx, if_neg hf] at htx
      rw [List.prefix_nil.1 htx]
      rfl
  refine ⟨?_, ?_, ?_, ?_, ?_, ?_, ?_, ?_, ?_, ?_, ?_, ?_, hfifo⟩
  case refine_11 =>
    show (finish e { u with lastSr := l, trace := u.trace ++ es }).cksum = _
    rw [finish_cksum, ← sumInto_zero]
    rfl
  all_goals simp [u, State.waited, State.did, State.atWork, sampleAndClear]

section
variable {i : Instr} {s : State} {before : List Part} {sp : PollSpec} {tx : List Byte} {w : Work} {ops : List Op}

/-- A command at a wait that uses up its budget ends with the wait's error. -/
theorem exec_timesOut (hr : s.run = false) (hi : s.cfg.pollImpl = .reads) (h32 : s.cfg.budget sp.cls < 2 ^ 32)
    (hgood : operandsGood i s = true)
    (h : Performs s.cfg (s.sample i) s.work (opsOf i s.cfg (s.sample i)) before tx w (.poll sp :: ops))
    (htx : tx <+: s.txFifo) {ks ms : List Nat} {as rest : List Answer} (hb : withinBudget s.cfg before ks = true)
    (hx : s.xp = as ++ rest) {cs : List WireCall}
    (hcs : cs = withRetries ms (wireCalls s.cfg s.tm
      (partsWire s.cfg (s.sample i) before ks ++ pendingReads s.cfg (s.sample i) sp (s.cfg.budget sp.cls))))
    (hm : meets s.cfg cs as = true) :
    exec i s = .next { finish sp.err (((sampleAndClear i s).waited cs as tx.length
      (BitVec.ofNat 32 (s.cfg.budget sp.cls))).atWork w) with xp := rest } := by
  rw [partsCalls_pendingReads s.tm h] at hcs
  subst hcs
  obtain ⟨as1, as2, rfl, hm1, hm2⟩ := (meets_append ..).1 hm
  rw [List.append_assoc] at hx
  let u := ((sampleAndClear i s).waited (partsCalls s.cfg (s.sample i) s.tm before ks ms) as1 tx.length
    (readsN s.cfg before ks s.n)).atWork w
  rw [exec_performs hr hgood h htx (fun _ => hb) hx hm1, drive_wait_timesOut (s := u) hi h32 rfl rfl hm2, drive_finish]
  have hall := waited_append (sampleAndClear i s) (meets_length hm1) tx.length 0 (readsN s.cfg before ks s.n)
    (BitVec.ofNat 32 (s.cfg.budget sp.cls)) (cs' := wireCalls s.cfg u.tm
      (pendingReads s.cfg (s.sample i) sp (s.cfg.budget sp.cls))) (as' := as2)
  rw [Nat.add_zero] at hall
  exact congrArg (fun t : State => Host.Outcome.next { finish sp.err (t.atWork w) with xp := rest }) hall.symm

/-- A command at an assisted wait that XP gives up ends with the wait's error. -/
theorem exec_assisted_timesOut (hr : s.run = false) (hi : s.cfg.pollImpl = .assisted) (hgood : operandsGood i s = true)
    (h : Performs s.cfg (s.sample i) s.work (opsOf i s.cfg (s.sample i)) before tx w (.poll sp :: ops))
    (htx : tx <+: s.txFifo) {ms : List Nat} {as rest : List Answer} {bad : Answer} {sr : Byte}
    (hx : s.xp = as ++ bad :: rest) (hbad : bad.poll = .timedOut sr)
    (hm : meets s.cfg (partsCalls s.cfg (s.sample i) s.tm before [] ms) as = true) :
    let u := ((sampleAndClear i s).waited (partsCalls s.cfg (s.sample i) s.tm before [] ms) as tx.length
      (readsN s.cfg before [] s.n)).atWork w
    exec i s = .next { finish sp.err
      { u with lastSr := sr, trace := u.trace ++ [givenUp s.cfg (s.sample i) sp sr] } with xp := rest } := by
  intro u
  rw [exec_performs hr hgood h htx (fun hreads => by simp [hi] at hreads) hx hm,
    drive_autoPoll_timesOut (p := s.sample i) (s := u) hi hbad rfl rfl, drive_finish]

end

theorem anyWaitTimesOut (i : Instr) : AnyWaitTimesOut i := by
  intro s before after sp ks ms as rest hr hi h32 hgood hps hb hx p cs hm
  have hparts := performs_parts hgood
  rw [hps] at hparts
  obtain ⟨w, ops, tx, htx, h⟩ := hparts.split
  refine ⟨_, exec_timesOut hr hi h32 hgood h (htx.trans (usedTx_prefix i s)) hb hx rfl hm, ?_, ?_, ?_, rfl⟩
  · let u := ((sampleAndClear i s).waited cs as tx.length (BitVec.ofNat 32 (s.cfg.budget sp.cls))).atWork w
    have ended := finish_endedWith hgood htx sp.err cs as rest (BitVec.ofNat 32 (s.cfg.budget sp.cls)) w u.lastSr []
    simp only [List.append_nil] at ended
    exact ended
  · exact finish_lastSr ..
  · exact finish_n ..

theorem anyAssistedWaitTimesOut (i : Instr) : AnyAssistedWaitTimesOut i := by
  intro s before after sp ms as rest bad sr hr hi hgood hps hx hbad p cs hm
  have hparts := performs_parts hgood
  rw [hps] at hparts
  obtain ⟨w, ops, tx, htx, h⟩ := hparts.split
  refine ⟨_, exec_assisted_timesOut hr hi hgood h (htx.trans (usedTx_prefix i s)) hx hbad hm, ?_, ?_, rfl⟩
  · exact finish_endedWith hgood htx sp.err cs as rest (readsN s.cfg before [] s.n) w sr _
  · exact finish_lastSr ..

theorem timesOut (i : Instr) : TimesOut i := by
  intro s sp as rest hr hi hb hgood hw h32 hx ws hm
  have hne := ne_write_of_waitOf hw
  have hmain : Performs s.cfg (s.sample i) s.work (opsOf i s.cfg (s.sample i)) (mainParts i s) (usedTx i s) s.work
      (.poll sp :: endOps i) := by
    have := performs_main hgood hne s.work
    rwa [waitOps, hw] at this
  have hcs : wireCalls s.cfg s.tm ws = withRetries [] (wireCalls s.cfg s.tm
      (partsWire s.cfg (s.sample i) (mainParts i s) [] ++ pendingReads s.cfg (s.sample i) sp (s.cfg.budget sp.cls))) := by
    rw [withRetries_nil, partsWire_mainParts i hne]
  have hbudget : withinBudget s.cfg (mainParts i s) [] = true := by
    by_cases he : i = .erase
    · subst he
      simp [mainParts, withinBudget, hb]
    · rw [mainParts_of_ne he]
      rfl
  rw [exec_timesOut hr hi h32 hgood hmain (usedTx_prefix i s) hbudget hx hcs hm,
    finish_spent (i := i) (s := s) sp.err rfl rfl,
    ownEffect_eq i s { s.completed i ws as rest with result := sp.err, n := _ } rfl rfl rfl, switched,
    switchOf_waiting hw, workAfter_of_ne hne]
  exact congrArg (fun t => Host.Outcome.next (State.atWork t s.work))
    (waited_ended hgood sp.err (wireCalls s.cfg s.tm ws) as rest (BitVec.ofNat 32 (s.cfg.budget sp.cls)))

/-- Settles O43: the parts before a wait are performed as in O42, and the wait then uses up its budget. -/
theorem waitsTimeOutAfterTheBudget : Obligations.WaitsTimeOutAfterTheBudget :=
  ⟨timesOut, anyWaitTimesOut, anyAssistedWaitTimesOut⟩

end Sys2Proof.Machine
end

section
/-! THEOREMS. Status commands (O24, O30, O31, O32, 42_status.md R181 to R189, 48_composite.md R297). That a command completes
when each of its waits ends at the first read is the case of O42 without reads in vain and without declined bytes. It is
proved once, for every command: the items of the parts are then those of `wireOf`, and N is 1 exactly when a poll of reads
is among the calls. -/

namespace Sys2Proof.Machine

/-! ## Waits ended by their first read -/

section
variable {c : Cfg} {p : Sampled}

theorem withinBudget_first (hb : ∀ k, 0 < c.budget k) (ps : List Part) : withinBudget c ps [] = true := by
  induction ps with
  | nil => rfl
  | cons part ps ih =>
    cases part with
    | items ws => exact ih
    | wait sp => simp [withinBudget, hb, ih]

theorem partsWire_first_append (ps ps' : List Part) :
    partsWire c p (ps ++ ps') [] = partsWire c p ps [] ++ partsWire c p ps' [] := by
  induction ps with
  | nil => rfl
  | cons part ps ih =>
    cases part <;> simp only [List.cons_append, partsWire, List.tail_nil, ih, List.append_assoc]

theorem partsWire_first_flatMap {α : Type} (f : α → List Part) (l : List α) :
    partsWire c p (l.flatMap f) [] = l.flatMap fun x => partsWire c p (f x) [] := by
  induction l with
  | nil => rfl
  | cons x l ih => rw [List.flatMap_cons, List.flatMap_cons, partsWire_first_append, ih]

/-- A chunk of WRITE on the wire (48_composite.md R292). -/
theorem partsWire_first_chunk (fifo : List Byte) (k : Nat × Nat × Nat) :
    partsWire c p (chunkParts c p fifo k) [] = chunkWire c p fifo k := by
  simp [chunkParts, enabledParts, partsWire, waitReads_zero, chunkWire, enableWire, welWire, busyWire]

/-- A wait makes a poll read unless XP polls in its stead (41_sequencer_poller.md R173). -/
theorem isPoll_waitWire (tm : Mode) (sp : PollSpec) :
    (wireCalls c tm (waitWire c p sp)).any WireCall.isPoll = decide (c.pollImpl = .reads) := by
  unfold waitWire
  cases hi : c.pollImpl with
  | reads => exact statusWire_isPoll c p tm sp
  | assisted => rfl

theorem readsN_first_wait (sp : PollSpec) (old : Word) :
    readsN c [.wait sp] [0] old = if c.pollImpl = .reads then 1 else old := by
  unfold readsN
  cases c.pollImpl <;> rfl

/-- N after the parts of a command: 1 if a poll read was among the calls (10_state.md R47). -/
theorem Performs.readsN_first {w w' : Work} {ops mid : List Op} {ps : List Part} {tx : List Byte}
    (h : Performs c p w ops ps tx w' mid) (tm : Mode) (old : Word) :
    readsN c ps [] old = if (wireCalls c tm (partsWire c p ps [])).any WireCall.isPoll then 1 else old := by
  induction h generalizing tm old with
  | done => exact readsN_nil ..
  | @items _ _ _ _ _ ws ps _ _ _ hq _ ih =>
    have silent : (wireCalls c tm ws).any WireCall.isPoll = false :=
      (quiet_status (roles_wireCalls rfl c tm ws hq) [] 0).2
    rw [readsN_items, partsWire, wireCalls_append, List.any_append, silent, Bool.false_or]
    exact ih _ old
  | @wait _ _ _ _ sp ps _ _ ih =>
    rw [readsN_wait, partsWire, List.headD_nil, waitReads_zero, List.tail_nil, wireCalls_append, List.any_append,
      isPoll_waitWire, readsN_first_wait, ih (wireTm c tm (waitWire c p sp))]
    by_cases hi : c.pollImpl = .reads <;> simp [hi]
  | expands _ _ ih => exact ih tm old

end

/-! ## Completion -/

theorem wireOf_eq (i : Instr) (s : State) :
    wireOf i s = mainOf i s ++ partsWire s.cfg (s.sample i) ((waitOf i s).map Part.wait).toList [] := by
  unfold wireOf
  cases waitOf i s with
  | none => rfl
  | some sp => simp [partsWire, waitReads_zero]

/-- Every wait ended by its first read, the parts of a command are `wireOf`. -/
theorem partsWire_first (i : Instr) (s : State) : partsWire s.cfg (s.sample i) (partsOf i s) [] = wireOf i s := by
  by_cases hw : i = .write
  · subst hw
    show partsWire s.cfg (s.sample .write) ((chunks s.cfg.pageSize s.addr.toNat s.len.toNat).flatMap
      (chunkParts s.cfg (s.sample .write) s.txFifo)) [] = _
    rw [partsWire_first_flatMap]
    simp only [partsWire_first_chunk, wireOf, mainOf, waitOf, List.append_nil]
  · rw [partsOf_eq hw, partsWire_first_append, partsWire_mainParts i hw, wireOf_eq]

/-- Every command completes: O42 with no read in vain and no byte declined. -/
theorem completes (i : Instr) : Completes i := by
  intro s as rest hr hb hgood hx hm
  have hcalls : partsCalls s.cfg (s.sample i) s.tm (partsOf i s) [] [] = wireCalls s.cfg s.tm (wireOf i s) := by
    rw [partsCalls, withRetries_nil, partsWire_first]
  have hN := (performs_parts hgood).readsN_first s.tm s.n
  rw [partsWire_first] at hN
  have ends := completesHowever i s [] [] as rest hr hgood (withinBudget_first hb _) hx (by rw [hcalls]; exact hm)
  rw [ends, hcalls, hN]
  rfl

/-- Settles O24: their parts are one bracket, without a wait. -/
theorem statusReadsComplete : Obligations.StatusReadsComplete :=
  ⟨completes .readSr1, completes .readSr2, completes .readSr3, completes .getStatus⟩

/-- Settles O30: WRITE_ENABLE's wait is for WEL, WRITE_DISABLE has none. -/
theorem writeEnableAndDisableComplete : Obligations.WriteEnableAndDisableComplete :=
  ⟨completes .writeEnable, completes .writeDisable⟩

/-- Settles O31: the wait is the whole command. -/
theorem waitReadyCompletes : Obligations.WaitReadyCompletes := completes .waitReady

/-- Settles O32: a bracket that sends ARG, and the Busy/Ready wait. -/
theorem statusWritesComplete : Obligations.StatusWritesComplete :=
  ⟨completes .writeSr1, completes .writeSr2, completes .writeSr3⟩

end Sys2Proof.Machine
end

section
/-! THEOREMS. Read commands (O26, O56, 43_read.md R200 to R210, 45_id_security.md R238, R240, 48_composite.md R291). Each is
one bracket that captures its data, so it completes as every command does; the calls of a worked example are then those
its items put on the wire, apart from the sequencer that makes them one at a time. -/

namespace Sys2Proof.Machine

/-- Settles O26: each is one bracket with LEN captured data phases, and READ is that of the variant the flags choose. -/
theorem readCommandsComplete : Obligations.ReadCommandsComplete :=
  ⟨completes .readData, completes .fastRead, completes .readDualOut, completes .readDualIo, completes .readQuadOut,
    completes .readQuadIo, completes .readDtr, completes .readDualIoDtr, completes .readQuadIoDtr, completes .read⟩

/-! ## The calls of a completed command -/

theorem traceOf_map_call {cs : List WireCall} {as : List Answer} (h : cs.length = as.length) :
    (traceOf cs as).map (·.call) = cs.map (·.call) :=
  calc (traceOf cs as).map (·.call)
      = ((cs.zip as).map Prod.fst).map (·.call) := by simp only [traceOf, List.map_map, Function.comp_def]
    _ = cs.map (·.call) := by rw [List.map_fst_zip h.le]

/-- What a command does beside its calls leaves the trace alone. -/
theorem ownEffect_trace (i : Instr) (t : State) : (ownEffect i t).trace = t.trace := by cases i <;> rfl

/-- A command whose answers meet its calls puts those calls in the trace, and no others. -/
theorem callsMade_completes {i : Instr} {s : State} {as rest : List Answer} (hr : s.run = false)
    (hb : ∀ k, 0 < s.cfg.budget k) (hgood : operandsGood i s = true) (hx : s.xp = as ++ rest)
    (hm : meets s.cfg (wireCalls s.cfg s.tm (wireOf i s)) as = true) :
    callsMade (exec i s) = s.trace.map (·.call) ++ (wireCalls s.cfg s.tm (wireOf i s)).map (·.call) := by
  have htrace : (ownEffect i (s.completed i (wireOf i s) as rest)).trace =
      s.trace ++ traceOf (wireCalls s.cfg s.tm (wireOf i s)) as := ownEffect_trace ..
  rw [completes i s as rest hr hb hgood hx hm, callsMade, htrace, List.map_append, traceOf_map_call (meets_length hm)]

/-! ## The worked examples -/

/-- The state of the worked examples (43_read.md R201 to R209): reset, LEN = 2, and 30 accepting answers. -/
def readExample (addr : Word) (a4b : Bool) : State :=
  { State.reset with
    addr := addr, len := 2#32, a4b := a4b
    xp := List.replicate 30 { call := .ok, xfer := .done 0xA1#8, poll := .error } }

/-- The calls command `i` has to make in the state of the worked examples. -/
def exampleCalls (i : Instr) (addr : Word) (a4b : Bool) : List WireCall :=
  wireCalls Cfg.default narrowMode (wireOf i (readExample addr a4b))

/-- In the default configuration every budget is free, and at least 1 (log 3). -/
theorem budget_default_pos (k : BudgetClass) : 0 < Cfg.default.budget k := Nat.succ_pos _

/-- With good operands, and a first answer to each of its calls that meets it, a command makes the calls of its wire. -/
theorem callsMade_readExample {i : Instr} {addr : Word} {a4b : Bool}
    (hgood : operandsGood i (readExample addr a4b) = true)
    (hm : meets Cfg.default (exampleCalls i addr a4b)
      ((readExample addr a4b).xp.take (exampleCalls i addr a4b).length) = true)
    {calls : List Call} (hcalls : (exampleCalls i addr a4b).map (·.call) = calls) :
    callsMade (exec i (readExample addr a4b)) = calls :=
  (callsMade_completes (s := readExample addr a4b) rfl budget_default_pos hgood
    (List.take_append_drop ..).symm hm).trans hcalls

/-- Settles O56: each example is the wire of its command, by the default opcodes and shapes. -/
theorem workedReadExamples : Obligations.WorkedReadExamples := by
  refine ⟨?readData, ?fastRead, ?readDualOut, ?readDualIo, ?readQuadOut, ?readQuadIo, ?readDtr, ?readDualIoDtr,
    ?readQuadIoDtr, ?readUniqueId, ?readUniqueIdWide, ?secRead, ?secReadWide⟩
  case readUniqueIdWide =>
    exact callsMade_readExample (addr := 0x000100#32) (a4b := true) (by decide) (by decide) (by decide)
  case secRead =>
    exact callsMade_readExample (addr := 0x001000#32) (a4b := false) (by decide) (by decide) (by decide)
  case secReadWide =>
    exact callsMade_readExample (addr := 0x003000#32) (a4b := true) (by decide) (by decide) (by decide)
  all_goals exact callsMade_readExample (addr := 0x000100#32) (a4b := false) (by decide) (by decide) (by decide)

end Sys2Proof.Machine
end

section
/-! THEOREMS. Program and erase commands (O33, O34, 44_program_erase.md R221 to R225, 48_composite.md R295). They complete as
every command does (`completes`): what each puts on the wire is in `runsMain_primitive` for the five primitive ones, and in
`performs_erase` for ERASE, whose bracket follows the write-enable and its wait. -/

namespace Sys2Proof.Machine

/-- Settles O33: a bracket without data phases and the wait of the unit's class, under a write-enable for ERASE. -/
theorem eraseCommandsComplete : Obligations.EraseCommandsComplete :=
  ⟨completes .sectorErase, completes .block32Erase, completes .block64Erase, completes .chipErase, completes .erase⟩

/-- Settles O34: the one bracket sends the whole FIFO, which good operands make LEN bytes. -/
theorem pageProgramCompletes : Obligations.PageProgramCompletes := completes .pageProgram

end Sys2Proof.Machine
end

section
/-! THEOREMS. Identification and security register commands (O25, O27, 45_id_security.md R236 to R242, 48_composite.md R296).
They complete as every command does (`completes`). Six are primitive: `runsMain_primitive` ties the bracket of each to the
items of its descriptor in the catalogue; `runsMain_getId` does so for GET_ID, whose bracket is READ_JEDEC_ID's. -/

namespace Sys2Proof.Machine

/-- Settles O25: each is one bracket, without a wait, that captures the configured number of bytes, 0 included. -/
theorem identificationReadsComplete : Obligations.IdentificationReadsComplete :=
  ⟨completes .readJedecId, completes .readMfrId, completes .readUniqueId, completes .getId⟩

/-- Settles O27: SEC_READ captures LEN bytes; SEC_PROGRAM sends the whole FIFO and SEC_ERASE no data, each followed by the
wait of its class. -/
theorem securityRegisterCommandsComplete : Obligations.SecurityRegisterCommandsComplete :=
  ⟨completes .secRead, completes .secProgram, completes .secErase⟩

end Sys2Proof.Machine
end

section
/-! THEOREMS. Mode switches and the software reset (O35, O36, O37, O38, O44, 46_mode_reset.md R251 to R258). They complete as
every command does (`completes`); what tells ENTER_QPI apart is its test of the byte it reads, which with QE = 0 ends it
where `runs_quadTest` has it go on. -/

namespace Sys2Proof.Machine

/-- Settles O35: each is one bracket without data phases, and then its flag. -/
theorem addressModeSwitchesComplete : Obligations.AddressModeSwitchesComplete :=
  ⟨completes .enter4b, completes .exit4b⟩

/-- Settles O36: ENTER_QPI goes on past its test (`runs_quadTest`) to a bracket of its own; EXIT_QPI is one bracket. -/
theorem quadModeSwitchesComplete : Obligations.QuadModeSwitchesComplete :=
  ⟨completes .enterQpi, completes .exitQpi⟩

/-- Settles O37: nothing is put on the wire, and the flag is the whole command. -/
theorem doubleRateSwitchesComplete : Obligations.DoubleRateSwitchesComplete :=
  ⟨completes .dtrEnable, completes .dtrDisable⟩

/-- Settles O38: two brackets without data phases (`runsMain_softReset`), no wait and no flag. -/
theorem softResetCompletes : Obligations.SoftResetCompletes := completes .softReset

/-! ## ENTER_QPI with QE = 0 -/

section
variable {c : Cfg} {p : Sampled} {tm : Mode} {r : Role}

/-- The calls of a read of status register 2: one of the read's role, the others plain. -/
theorem status2Wire_calls (c : Cfg) (p : Sampled) (tm : Mode) (r : Role) :
    ∃ pre, wireCalls c tm (status2Wire c p r) =
      pre ++ { call := .transfer c.dummyByte true, role := r, data := true } ::
        [{ call := .selectHigh, role := .plain }] ∧
      ∀ k ∈ pre, k.role = .plain := by
  let front := [WireItem.select, .phase (pdOpc p.qpi false) (c.opcode p.a4b .rdsr2) .plain]
  have hsplit : status2Wire c p r = front ++ [.phase (pdRxi p.qpi) c.dummyByte r true, .deselect] := rfl
  have hfront : ∀ k ∈ wireCalls c tm front, k.role = .plain := fun k hk => by
    simpa using roles_wireCalls (P := (· == .plain)) rfl c tm front rfl k hk
  have hensure : ∀ k ∈ ensureCalls true (wireTm c tm front) (pdRxi p.qpi).want, k.role = .plain := by
    unfold ensureCalls
    split <;> simp
  refine ⟨_, ?_, List.forall_mem_append.2 ⟨hfront, hensure⟩⟩
  rw [hsplit, wireCalls_append]
  simp [wireCalls, WireItem.calls, pdRxi]

/-- The byte SEQ keeps of a read of status register 2 is that of an answer the read's role accepts. -/
theorem status2Wire_kept {as : List Answer} (hk : ∀ a, r.kept a = some (byteOf a))
    (hm : meets c (wireCalls c tm (status2Wire c p r)) as = true) :
    ∃ a, r.met c a = true ∧ ∀ old, lastByte Role.kept (wireCalls c tm (status2Wire c p r)) as old = byteOf a := by
  obtain ⟨pre, hcalls, hpre⟩ := status2Wire_calls c p tm r
  rw [hcalls] at hm ⊢
  obtain ⟨a, hmet, hlast⟩ := lastByte_single hpre (by simp) hm
  exact ⟨a, hmet, fun old => by rw [hlast, hk]; rfl⟩

end

/-- The test of the byte kept, with QE = 0 (46_mode_reset.md R253 step 3): no bracket is open, so the command ends. -/
theorem settle_qeTest_off {t : State} (h : quadEnabled t.cfg t.sr = false) (k : List Op) :
    settle (.qeTest :: k) t = finish .transportCommandFailed t := by
  simp only [settle, h, Bool.false_eq_true, if_false, raiseError_closed]

/-- Settles O44: the bracket of status register 2 runs as on the way to the switch, and the test of its byte ends the
command before the switch's own bracket. -/
theorem enterQpiNeedsQuadEnable : Obligations.EnterQpiNeedsQuadEnable := by
  intro s as rest hr hx ws hm
  have hlegal := (checks_legal .enterQpi s).2 rfl
  have hops : opsOf .enterQpi s.cfg (s.sample .enterQpi) = bracketOps s.cfg (s.sample .enterQpi) statusRead2Desc 0 0 0 ++
      (.qeTest :: (subOps s.cfg (s.sample .enterQpi) enterQpiDesc 0 0 0 ++ [.finish .ok])) := by
    simp [opsOf]
  have hfits : DataFits (s.sample .enterQpi) statusRead2Desc 0 [] [] .quadOff := ⟨rfl, rfl⟩
  have hread : Runs2 s.cfg (s.sample .enterQpi) (bracketOps s.cfg (s.sample .enterQpi) statusRead2Desc 0 0 0) ws [] :=
    runs2_bracket hfits rfl
  let t := (sampleAndClear .enterQpi s).did2 (wireCalls s.cfg s.tm ws) as 0
  have hoff : quadEnabled t.cfg t.sr = false := by
    obtain ⟨a, hmet, hkept⟩ := status2Wire_kept (fun _ => rfl) hm
    have hsr : t.sr = byteOf a := hkept s.sr
    obtain ⟨-, hqe⟩ := Bool.and_eq_true_iff.1 hmet
    rw [hsr]
    exact congrArg not hqe
  have hfinish : finish .transportCommandFailed t =
      { t with result := .transportCommandFailed, run := false, done := true, todo := [] } := finish_eq nofun
  rw [exec_runs hr hlegal hops hread List.nil_prefix hx hm]
  show Host.Outcome.next (drive rest (settle _ t)) = _
  rw [settle_qeTest_off hoff, drive_finish, hfinish]
  exact congrArg (fun u : State => Host.Outcome.next { u with result := .transportCommandFailed })
    (did2_completed .enterQpi s ws as rest 0)

end Sys2Proof.Machine
end

section
/-! THEOREMS. Checksum and page-buffer commands (O28, O29, 47_checksum_pagebuffer.md R271 to R279). They complete as every
command does (`completes`). All seven are primitive: `mainOf_primitive` ties the bracket of each to its descriptor in the
catalogue, and `runsMain_primitive` runs it. The proof never looks at what `Cfg.opcode` gives, so the opcode bytes, which
the spec leaves open for these commands, do not matter. -/

namespace Sys2Proof.Machine

/-- Settles O28: PB_WRITE sends the whole FIFO and PB_READ captures LEN bytes; the other three have no data phase, and of
the five only PB_PROGRAM is followed by a wait. -/
theorem pageBufferCommandsComplete : Obligations.PageBufferCommandsComplete :=
  ⟨completes .pbClear, completes .pbWrite, completes .pbRead, completes .pbProgram, completes .pbLoad⟩

/-- Settles O29: CHECKSUM_CALC has two addresses, no data phase and the wait of its class; CHECKSUM_READ captures CHK_LEN
bytes, 0 included, and does not wait. -/
theorem checksumRangeCommandsComplete : Obligations.ChecksumRangeCommandsComplete :=
  ⟨completes .checksumCalc, completes .checksumRead⟩

end Sys2Proof.Machine
end

section
/-! THEOREMS. WRITE and its chunks (O39, O55, 48_composite.md R292 to R294). WRITE completes as every command does
(`completes`): `performs_write` unrolls its loop into the chunks whose arithmetic is proved here. -/

namespace Sys2Proof.Machine

/-- Settles O39: the loop's registers reach ADDR + LEN, 0 and LEN, and every chunk is a bracket between two waits. -/
theorem writeCompletesAsItsChunks : Obligations.WriteCompletesAsItsChunks := completes .write

/-! ## The size of a chunk -/

section
variable {page off rem : Nat}

/-- A chunk is not empty, ends within its page, and takes no more than is left. -/
theorem chunkSize_bounds (hp : 0 < page) (hr : 0 < rem) :
    1 ≤ chunkSize page off rem ∧ chunkSize page off rem ≤ page ∧ off % page + chunkSize page off rem ≤ page ∧
      chunkSize page off rem ≤ rem := by
  have hmod := Nat.mod_lt off hp
  unfold chunkSize
  omega

/-- A chunk that leaves bytes over fills its page. -/
theorem chunkSize_fills (hp : 0 < page) (h : chunkSize page off rem < rem) :
    off + chunkSize page off rem = page * (off / page + 1) := by
  have hmod := Nat.mod_lt off hp
  have hdiv := Nat.div_add_mod off page
  rw [Nat.mul_add, Nat.mul_one]
  unfold chunkSize at h ⊢
  omega

theorem chunkSize_of_fits (h : off % page + rem ≤ page) : chunkSize page off rem = rem := by
  unfold chunkSize
  omega

end

/-! ## The list of chunks -/

section
variable {page : Nat}

theorem chunksFrom_done (fuel off src : Nat) : chunksFrom page fuel off src 0 = [] := by
  cases fuel <;> rfl

theorem chunksFrom_next {rem : Nat} (h : rem ≠ 0) (fuel off src : Nat) :
    chunksFrom page (fuel + 1) off src rem =
      (off, src, chunkSize page off rem) ::
        chunksFrom page fuel (off + chunkSize page off rem) (src + chunkSize page off rem)
          (rem - chunkSize page off rem) := by
  rw [chunksFrom, if_neg h]
  rfl

/-- Each chunk lies within a page, as far from the first one in the flash as in the source, and starts a page unless it
is the first. -/
theorem mem_chunksFrom (hp : 0 < page) {fuel off src rem : Nat} {k : Nat × Nat × Nat}
    (h : k ∈ chunksFrom page fuel off src rem) :
    k.1 + src = off + k.2.1 ∧ src ≤ k.2.1 ∧ 1 ≤ k.2.2 ∧ k.2.2 ≤ page ∧ k.1 % page + k.2.2 ≤ page ∧
      (src < k.2.1 → k.1 % page = 0) := by
  induction fuel generalizing off src rem with
  | zero => cases h
  | succ fuel ih =>
    by_cases h0 : rem = 0
    · subst h0
      rw [chunksFrom_done] at h
      cases h
    · obtain ⟨hpos, hle, hpage, hrem⟩ := chunkSize_bounds (off := off) hp (Nat.pos_of_ne_zero h0)
      rw [chunksFrom_next h0, List.mem_cons] at h
      rcases h with rfl | h
      · exact ⟨rfl, le_refl _, hpos, hle, hpage, fun hlt => absurd hlt (lt_irrefl _)⟩
      · obtain ⟨haddr, hsrc, hk1, hkle, hkpage, hkstart⟩ := ih h
        have hmore : chunkSize page off rem < rem := by
          refine lt_of_le_of_ne hrem fun he => ?_
          rw [he, Nat.sub_self, chunksFrom_done] at h
          cases h
        refine ⟨by omega, by omega, hk1, hkle, hkpage, fun _ => ?_⟩
        rcases Nat.eq_or_lt_of_le hsrc with heq | hlt
        · rw [show k.1 = off + chunkSize page off rem by omega, chunkSize_fills hp hmore, Nat.mul_mod_right]
        · exact hkstart hlt

/-- The chunks' source bytes, one after another, are the request's. -/
theorem chunksFrom_bytes (hp : 0 < page) (tx : List Byte) {fuel off src rem : Nat} (hf : rem ≤ fuel) :
    (chunksFrom page fuel off src rem).flatMap (fun k => (tx.drop k.2.1).take k.2.2) = (tx.drop src).take rem := by
  induction fuel generalizing off src rem with
  | zero =>
    obtain rfl : rem = 0 := by omega
    rfl
  | succ fuel ih =>
    by_cases h0 : rem = 0
    · subst h0
      rw [chunksFrom_done]
      rfl
    · obtain ⟨hpos, -, -, hrem⟩ := chunkSize_bounds (off := off) hp (Nat.pos_of_ne_zero h0)
      rw [chunksFrom_next h0, List.flatMap_cons, ih (by omega), ← List.drop_drop, ← List.take_add,
        Nat.add_sub_cancel' hrem]

/-- There are as many chunks as pages the request touches. -/
theorem length_chunksFrom (hp : 0 < page) {fuel off src rem : Nat} (hf : rem ≤ fuel) (h0 : 0 < rem) :
    (chunksFrom page fuel off src rem).length = (off + rem - 1) / page - off / page + 1 := by
  induction fuel generalizing off src rem with
  | zero => omega
  | succ fuel ih =>
    obtain ⟨hpos, -, hpage, hrem⟩ := chunkSize_bounds (off := off) hp h0
    rw [chunksFrom_next (by omega), List.length_cons]
    rcases Nat.eq_or_lt_of_le hrem with hlast | hmore
    · have hsame : (off + rem - 1) / page = off / page := by
        have hdiv := Nat.div_add_mod off page
        exact Nat.div_eq_of_lt_le (by rw [Nat.mul_comm]; omega) (by rw [Nat.mul_comm, Nat.mul_add]; omega)
      rw [hlast, Nat.sub_self, chunksFrom_done, hsame, Nat.sub_self]
      rfl
    · have hnext : (off + chunkSize page off rem) / page = off / page + 1 := by
        rw [chunkSize_fills hp hmore, Nat.mul_div_cancel_left _ hp]
      have hend : off / page + 1 ≤ (off + rem - 1) / page := by
        rw [← hnext]
        exact Nat.div_le_div_right (by omega)
      rw [ih (by omega) (by omega), hnext,
        show off + chunkSize page off rem + (rem - chunkSize page off rem) - 1 = off + rem - 1 by omega]
      omega

end

/-- Settles O55: by induction on the chunks, from the bounds of one chunk's size. -/
theorem chunkArithmetic : Obligations.ChunkArithmetic := by
  intro page addr len hp
  refine ⟨fun k hk => ?_, fun tx hlen => ?_, fun h0 => length_chunksFrom hp (le_refl _) h0, fun h0 hone => ?_⟩
  · obtain ⟨haddr, -, hpos, hle, hpage, hstart⟩ := mem_chunksFrom hp hk
    exact ⟨haddr, hpos, hle, hpage, hstart⟩
  · rw [chunks, chunksFrom_bytes hp tx (le_refl _), List.drop_zero, ← hlen, List.take_length]
  · obtain ⟨fuel, rfl⟩ : ∃ fuel, len = fuel + 1 := ⟨len - 1, by omega⟩
    rw [chunks, chunksFrom_next (by omega), chunkSize_of_fits hone, Nat.sub_self, chunksFrom_done]

end Sys2Proof.Machine
end

section
/-! THEOREMS. Steps that always answer, and reset (O11, O12, O14, 60_exceptions.md R320, R326, 70_reset_and_hazards.md R350
to R353). -/

namespace Sys2Proof.Machine

/-- Settles O11: by evaluation of the reset state. -/
theorem resetState : Obligations.ResetState :=
  ⟨rfl, rfl, rfl, rfl, rfl, rfl, rfl, rfl, rfl, rfl, rfl, rfl⟩

/-- With SEQ unable to move, the step takes the next act. -/
theorem step_act {s : State} {act : EnvAct} {rest : List EnvAct} (hm : s.canMove = false) (he : s.env = act :: rest) :
    step s = envStep act { s with env := rest } := by
  simp [step, hm, he]

/-- Settles O12: the act is `applyReset`. -/
theorem resetActForgetsTheCommand : Obligations.ResetActForgetsTheCommand := by
  intro s rest hm he
  rw [step_act hm he]
  rfl

/-! ## Totality (O14) -/

theorem exec_answers (i : Instr) (s : State) : ∃ t, exec i s = .next t := by
  rw [exec_eq]
  rcases runCommand_cases i (checksOf i s.cfg) (opsOf i) s with ⟨-, h⟩ | ⟨-, -, h⟩ | ⟨-, -, h⟩ <;> exact ⟨_, h⟩

theorem writeCmd_answers (code : Byte) (s : State) : ∃ t, writeCmd code s = .next t := by
  unfold writeCmd
  split
  · exact ⟨_, rfl⟩
  · split
    · exact exec_answers _ s
    · exact ⟨_, rfl⟩

theorem envStep_answers (act : EnvAct) (s : State) : ∃ t, envStep act s = .next t := by
  cases act with
  | write offset v =>
    show ∃ t, regWrite offset v s = .next t
    unfold regWrite
    split
    · exact writeCmd_answers _ s
    all_goals exact ⟨_, rfl⟩
  | read offset => exact ⟨_, rfl⟩
  | answers as => exact ⟨_, rfl⟩
  | reset => exact ⟨_, rfl⟩

/-- With SEQ unable to move and no act waiting, a step answers the same state (log 33). -/
theorem step_stuck {s : State} (hm : s.canMove = false) (he : s.env = []) : step s = .next s := by
  simp [step, hm, he]

theorem step_answers (s : State) : ∃ t, step s = .next t := by
  cases hm : s.canMove with
  | true => exact ⟨drive s.xp s, by simp [step, hm]⟩
  | false =>
    cases he : s.env with
    | nil => exact ⟨s, step_stuck hm he⟩
    | cons act rest =>
      rw [step_act hm he]
      exact envStep_answers act _

/-- Settles O14: a step is a run, an act or nothing, and each of them answers. -/
theorem everyStepAnswers : Obligations.EveryStepAnswers := ⟨step_answers, exec_answers, fun _ => step_stuck⟩

end Sys2Proof.Machine
end

section
/-! THEOREMS. InvalidArgument (O41, 60_exceptions.md R313, 20_memory.md R71, 30_encoding.md R101). The operand checks are the
list of R313 (`checks_legal`); once they have passed, no item of a command and no answer can end it with that result. -/

namespace Sys2Proof.Machine

/-! ## Items that end a command with another result -/

/-- The item does not end its command with InvalidArgument. -/
def Op.innocent (op : Op) : Bool :=
  match op with
  | .finish r => r != .invalidArgument
  | .abort e _ => e != .invalidArgument
  | .poll p | .pollTest p | .autoPoll p => p.err != .invalidArgument
  | _ => true

/-- No end of the command, now or later, is InvalidArgument. -/
structure Innocent (s : State) : Prop where
  running : s.todo ≠ [] → s.run = true
  result : s.run = false → s.result ≠ .invalidArgument
  todo : ∀ op ∈ s.todo, op.innocent = true

theorem innocent_inBracket {op : Op} (h : inBracket op = true) : op.innocent = true := by
  cases op with
  | abort | poll | pollTest | autoPoll | finish => cases h
  | _ => rfl

theorem innocent_bracketOps {c : Cfg} {p : Sampled} {d : CmdDesc} {addr addr2 : Word} {len : Nat} :
    ∀ op ∈ bracketOps c p d addr addr2 len, op.innocent = true := by
  intro op h
  rcases mem_bracketOps h with h | ⟨k, m, n, -, rfl⟩
  · exact innocent_inBracket h
  · rfl

theorem innocent_tailOps (c : Cfg) (d : CmdDesc) : ∀ op ∈ tailOps c d, op.innocent = true := by
  refine List.forall_mem_append.2 ⟨?_, ?_⟩
  · cases d.commit with
    | none => exact fun op h => absurd h List.not_mem_nil
    | some x => exact List.forall_mem_singleton.2 rfl
  · cases d.post with
    | noPoll => exact fun op h => absurd h List.not_mem_nil
    | pollBusy k => exact List.forall_mem_singleton.2 rfl
    | pollWel => exact List.forall_mem_singleton.2 rfl

theorem innocent_subOps {c : Cfg} {p : Sampled} {d : CmdDesc} {addr addr2 : Word} {len : Nat} :
    ∀ op ∈ subOps c p d addr addr2 len, op.innocent = true :=
  List.forall_mem_append.2 ⟨innocent_bracketOps, innocent_tailOps c d⟩

theorem innocent_chunkOps {c : Cfg} {p : Sampled} {off : Word} {size : Nat} :
    ∀ op ∈ chunkOps c p off size, op.innocent = true :=
  List.forall_mem_append.2 ⟨innocent_subOps, innocent_subOps⟩

/-- A command whose operands pass its checks has only such items: WAIT_READY's budget class exists. -/
theorem innocent_opsOf {i : Instr} {s : State} (h : illegal i s = false) :
    ∀ op ∈ opsOf i s.cfg (s.sample i), op.innocent = true := by
  have ended {ops : List Op} (h : ∀ op ∈ ops, op.innocent = true) : ∀ op ∈ ops ++ [.finish .ok], op.innocent = true :=
    List.forall_mem_append.2 ⟨h, List.forall_mem_singleton.2 rfl⟩
  cases hd : primitiveDesc i s.cfg with
  | some d =>
    rw [opsOf_primitive _ hd]
    exact ended innocent_subOps
  | none =>
    cases i with
    | waitReady =>
      have harg : s.arg.toNat ≤ 7 := by simpa [illegal] using h
      have hcls := budgetClassOf_legal harg
      simp only [opsOf, show (s.sample .waitReady).arg = s.arg from rfl, hcls]
      exact List.forall_mem_cons.2 ⟨rfl, List.forall_mem_singleton.2 rfl⟩
    | enterQpi =>
      exact ended (List.forall_mem_append.2
        ⟨List.forall_mem_append.2 ⟨innocent_bracketOps, List.forall_mem_singleton.2 rfl⟩, innocent_subOps⟩)
    | dtrEnable | dtrDisable => exact List.forall_mem_cons.2 ⟨rfl, List.forall_mem_singleton.2 rfl⟩
    | softReset | erase => exact ended (List.forall_mem_append.2 ⟨innocent_subOps, innocent_subOps⟩)
    | read | getId | getStatus => exact ended innocent_subOps
    | write => simp [opsOf, Op.innocent]
    | _ => cases hd

/-! ## What a running command can come to -/

theorem innocent_finish {r : Result} (h : r ≠ .invalidArgument) (s : State) : Innocent (finish r s) :=
  ⟨fun h' => absurd (finish_todo r s) h', fun _ => by rwa [finish_result], by simp⟩

/-- A running command with such items left to do. -/
theorem innocent_running {s : State} (hr : s.run = true) (h : ∀ op ∈ s.todo, op.innocent = true) : Innocent s :=
  ⟨fun _ => hr, fun h' => by simp [hr] at h', h⟩

theorem failKind_ne_invalidArgument (st : SeqSt) : failKind st ≠ .invalidArgument := by
  cases st <;> decide

theorem innocent_xferFail {s : State} (hr : s.run = true) (op : Op) : Innocent (xferFail op s) := by
  rw [xferFail_eq]
  exact innocent_running hr (by simpa [Op.innocent] using failKind_ne_invalidArgument _)

theorem innocent_pollLoop {p : PollSpec} (hp : p.err ≠ .invalidArgument) {ops : List Op}
    (h : ∀ op ∈ ops, op.innocent = true) {s : State} (hr : s.run = true) : Innocent (pollLoop p ops s) := by
  rw [pollLoop_eq]
  split
  · exact innocent_finish hp s
  · exact innocent_running hr (List.forall_mem_append.2
      ⟨innocent_bracketOps, List.forall_mem_cons.2 ⟨bne_iff_ne.2 hp, h⟩⟩)

theorem innocent_settle {ops : List Op} {s : State} (h : ∀ op ∈ ops, op.innocent = true) (hr : s.run = true) :
    Innocent (settle ops s) := by
  induction ops generalizing s with
  | nil => exact innocent_running hr h
  | cons op rest ih =>
    obtain ⟨hop, hrest⟩ := List.forall_mem_cons.1 h
    cases op with
    | select | opcode | phase | rxi | deselect | abort | autoPoll => exact innocent_running hr h
    | rx | tx =>
      simp only [settle]
      split
      · exact innocent_running hr h
      · exact ih hrest hr
    | preset | modeOff =>
      simp only [settle]
      split
      · exact ih hrest hr
      · exact innocent_running hr h
    | commit f v => exact ih hrest (by rwa [setFlag_run])
    | poll p =>
      have hp : p.err ≠ .invalidArgument := bne_iff_ne.1 hop
      simp only [settle]
      split
      · exact innocent_pollLoop hp hrest hr
      · exact innocent_running hr (List.forall_mem_cons.2 ⟨hop, hrest⟩)
    | pollTest p =>
      rw [settle_pollTest]
      split
      · exact ih hrest hr
      · exact innocent_pollLoop (bne_iff_ne.1 hop) hrest hr
    | qeTest =>
      simp only [settle]
      split
      · exact ih hrest hr
      · exact innocent_finish (by decide) s
    | loadWrite => exact ih hrest hr
    | chunk =>
      simp only [settle]
      split
      · exact ih hrest hr
      · exact innocent_running hr (List.forall_mem_append.2
          ⟨List.forall_mem_append.2 ⟨innocent_chunkOps, by simp [Op.innocent]⟩, hrest⟩)
    | advance z => exact ih hrest hr
    | finish r => exact innocent_finish (bne_iff_ne.1 hop) s

theorem innocent_afterAccept (op : Op) : ∀ op' ∈ afterAccept op, op'.innocent = true := by
  cases op with
  | rx | tx => exact List.forall_mem_singleton.2 rfl
  | _ => exact fun op' h => absurd h List.not_mem_nil

theorem innocent_answerTransfer {op : Op} {rest : List Op} (hrest : ∀ op ∈ rest, op.innocent = true) {s : State}
    (hr : s.run = true) (hs : Innocent s) (a : XferAns) : Innocent (answerTransfer op rest a s) := by
  unfold answerTransfer
  split
  · split
    · exact innocent_settle (List.forall_mem_cons.2 ⟨rfl, hrest⟩) hr
    · exact innocent_xferFail hr _
  · split
    · exact hs
    · split
      · exact innocent_xferFail hr _
      · exact hs
      · refine innocent_settle (List.forall_mem_append.2 ⟨List.forall_mem_append.2 ⟨?_, innocent_afterAccept op⟩, hrest⟩)
          (by rwa [accept_run])
        split
        · exact List.forall_mem_singleton.2 rfl
        · exact fun op' h => absurd h List.not_mem_nil

theorem innocent_answerHead {op : Op} {rest : List Op} (hop : op.innocent = true)
    (hrest : ∀ op ∈ rest, op.innocent = true) {s : State} (hr : s.run = true) (hs : Innocent s) (c : Call) (a : Answer) :
    Innocent (answerHead op rest c a s) := by
  cases c with
  | selectLow =>
    simp only [answerHead]
    split
    · exact innocent_settle hrest hr
    · exact innocent_finish (by decide) s
  | selectHigh =>
    simp only [answerHead]
    split
    · exact innocent_finish (bne_iff_ne.1 hop) s
    · split
      · exact innocent_settle hrest hr
      · exact innocent_finish (by decide) s
  | configure m =>
    simp only [answerHead]
    split
    · exact innocent_settle (List.forall_mem_cons.2 ⟨hop, hrest⟩) hr
    · exact innocent_xferFail hr op
  | transfer t w => exact innocent_answerTransfer hrest hr hs a.xfer
  | autoPoll o l k t b =>
    simp only [answerHead]
    split
    · split
      · exact innocent_settle hrest hr
      · exact innocent_finish (bne_iff_ne.1 hop) _
      · exact innocent_finish (by decide) s
    · exact hs

theorem innocent_answerCall {s : State} {c : Call} (hc : pendingCall s = some c) (a : Answer) (h : Innocent s) :
    Innocent (answerCall c a s) := by
  obtain ⟨op, rest, ht, -⟩ := pendingCall_todo hc
  obtain ⟨hop, hrest⟩ := List.forall_mem_cons.1 (ht ▸ h.todo)
  have hr : s.run = true := h.running (by simp [ht])
  have hlog : Innocent (s.logged c a) := ⟨h.running, h.result, h.todo⟩
  rw [answerCall_cons ht]
  exact innocent_answerHead (s := s.logged c a) hop hrest hr hlog c a

theorem innocent_drive (as : List Answer) {s : State} (h : Innocent s) : Innocent (drive as s) :=
  drive_induct (fun _ _ h => ⟨h.running, h.result, h.todo⟩) (fun _ _ a hc h => innocent_answerCall hc a h) as s h

/-! ## O41 -/

/-- A command whose operands fail a check ends at once (41_sequencer_poller.md R152). -/
theorem exec_illegal {i : Instr} {s : State} (hr : s.run = false) (h : illegal i s = true) :
    exec i s = .next (finish .invalidArgument (sampleAndClear i s)) := by
  rw [exec_eq]
  rcases runCommand_cases i (checksOf i s.cfg) (opsOf i) s with ⟨h1, -⟩ | ⟨-, -, h2⟩ | ⟨-, hk, -⟩
  · simp [hr] at h1
  · exact h2
  · have hlegal : illegal i s = false := (checks_legal i s).1 hk
    simp [h] at hlegal

theorem exec_legal_innocent {i : Instr} {s t : State} (hr : s.run = false) (h : illegal i s = false)
    (he : exec i s = .next t) : Innocent t := by
  have hk := (checks_legal i s).2 h
  rcases exec_cases he with ⟨h1, -⟩ | ⟨-, h2, -⟩ | ⟨-, -, rfl⟩
  · simp [hr] at h1
  · simp [hk] at h2
  · exact innocent_drive _ (innocent_settle (innocent_opsOf h) rfl)

/-- Settles O41: the checks are R313's list, a failed check is the end, and after them the result is another one. -/
theorem invalidArgumentHasTheseCausesOnly : Obligations.InvalidArgumentHasTheseCausesOnly := by
  refine ⟨fun i s hr h => ⟨_, exec_illegal hr h, ?_⟩, fun i s t hr h he => (exec_legal_innocent hr h he).result,
    fun code s hr h => ⟨_, writeCmd_undefined hr h, rfl, rfl⟩⟩
  simp

end Sys2Proof.Machine
end

section
/-! SUPPORT. Refused calls (60_exceptions.md R311, R312, R318): in whatever state SEQ makes a call, a refusal leaves only the
abort path, or ends the command. -/

namespace Sys2Proof.Machine

/-! ## Answers that refuse -/

/-- A call that is neither a transfer nor an assisted poll is refused by `Error`. -/
theorem refuses_call {k : WireCall} {a : Answer} (h : refuses k a = true)
    (hk : k.call = .selectLow ∨ k.call = .selectHigh ∨ ∃ m, k.call = .configure m) : a.call = .error := by
  rcases hk with hk | hk | ⟨m, hk⟩ <;> simpa [refuses, hk] using h

theorem refuses_autoPoll {k : WireCall} {a : Answer} (h : refuses k a = true) {o : Byte} {l : Lines} {mask target : Byte}
    {b : Nat} (hk : k.call = .autoPoll o l mask target b) : a.poll = .error := by
  simpa [refuses, hk] using h

/-- A transfer is refused by `Error`, and by `NotAccepted` when the byte is not one to send again. -/
theorem refuses_transfer {k : WireCall} {a : Answer} (h : refuses k a = true) {b : Byte} {w : Bool}
    (hk : k.call = .transfer b w) : a.xfer = .error ∨ (a.xfer = .notAccepted ∧ k.retry = false) := by
  cases hx : a.xfer with
  | done r => simp [refuses, hk, hx] at h
  | notAccepted => exact .inr ⟨rfl, by simpa [refuses, hk, hx] using h⟩
  | error => exact .inl rfl

/-- Such an answer to a phase's transfer is XferFail (40_phase_encoder.md R139). -/
theorem answerTransfer_refused {op : Op} {s : State} {pd : PD} {b : Byte} (h : opPhase s op = some (pd, b)) {a : XferAns}
    (ha : a = .error ∨ (a = .notAccepted ∧ pd.actions.rsucc = false)) (rest : List Op) :
    answerTransfer op rest a s = xferFail op s := by
  have hret : phaseRet pd.actions a = none := by
    rcases ha with rfl | ⟨rfl, hr⟩
    · rfl
    · simp [phaseRet, hr]
  unfold answerTransfer
  split
  · cases h
  · simp only [h, hret]

/-- So is any answer to a dummy preset's transfer that is not `Done`. -/
theorem answerTransfer_preset_refused {pos : Pos} {m : Mode} {ms : List Mode} {a : XferAns}
    (ha : a = .error ∨ a = .notAccepted) (rest : List Op) (s : State) :
    answerTransfer (.preset pos (m :: ms)) rest a s = xferFail (.preset pos (m :: ms)) s := by
  rcases ha with rfl | rfl <;> rfl

/-! ## What a refusal does -/

/-- SEQ, at the item `op`, makes the call `k` next, as a call of a data phase, and of a byte to send again, if `k` says so. -/
structure AtCall (s : State) (op : Op) (k : WireCall) : Prop where
  call : opCall s op = some k.call
  running : ∀ e pos, op ≠ .abort e pos
  retry : ∀ b w, k.call = .transfer b w → ((opPhase s op).any fun x => x.1.actions.rsucc) = k.retry

/-- With chip-select low a refused call leaves the abort path; otherwise it ends the command. -/
theorem answerCall_refused {s : State} {op : Op} {rest : List Op} {k : WireCall} {a : Answer} (ht : s.todo = op :: rest)
    (hk : AtCall s op k) (hr : refuses k a = true) :
    answerCall k.call a s =
      if leavesOpen k then { s.logged k.call a with todo := [.abort (failKind (opPos op).st) s.pos] }
      else finish .transportCommandFailed (s.logged k.call a) := by
  have configure {m : Mode} (hm : k.call = .configure m) : answerHead op rest k.call a (s.logged k.call a) =
      if leavesOpen k then xferFail op (s.logged k.call a) else finish .transportCommandFailed (s.logged k.call a) := by
    simp only [leavesOpen, hm, answerHead, refuses_call hr (.inr (.inr ⟨m, hm⟩)), if_true]
  have transfer {b : Byte} {w : Bool} (hb : k.call = .transfer b w)
      (hx : answerTransfer op rest a.xfer (s.logged k.call a) = xferFail op (s.logged k.call a)) :
      answerHead op rest k.call a (s.logged k.call a) =
        if leavesOpen k then xferFail op (s.logged k.call a)
        else finish .transportCommandFailed (s.logged k.call a) := by
    rw [hb] at hx ⊢
    simp only [leavesOpen, hb, if_true]
    exact hx
  rw [answerCall_cons ht, ← xferFail_logged]
  rcases opCall_cases hk.call with ⟨rfl, hc⟩ | ⟨rfl, hc⟩ | ⟨e, pos, rfl, -⟩ | ⟨pos, rfl, hc⟩ | ⟨p, rfl, hc⟩ |
    ⟨pos, m, ms, rfl, hc⟩ | ⟨pd, b, hp, hc⟩
  · simp only [leavesOpen, hc, answerHead, refuses_call hr (.inl hc)]
    rfl
  · simp only [leavesOpen, hc, answerHead, refuses_call hr (.inr (.inl hc))]
    rfl
  · exact absurd rfl (hk.running e pos)
  · exact configure hc
  · simp only [leavesOpen, hc, answerHead, refuses_autoPoll hr hc]
    rfl
  · rcases ensuring_cases s m.norm (.transfer s.cfg.dummyByte true) with ⟨-, he⟩ | ⟨-, he⟩ <;> rw [he] at hc
    · exact transfer hc (answerTransfer_preset_refused ((refuses_transfer hr hc).imp_right And.left) rest _)
    · exact configure hc
  · rcases ensuring_cases s pd.want (.transfer b pd.actions.wait) with ⟨-, he⟩ | ⟨-, he⟩ <;> rw [he] at hc
    · have hretry : pd.actions.rsucc = k.retry := by simpa [hp] using hk.retry _ _ hc
      exact transfer hc (answerTransfer_refused ((opPhase_logged ..).trans hp)
        (by rw [hretry]; exact refuses_transfer hr hc) rest)
    · exact configure hc

theorem pos_abort {s : State} {e : Result} {pos : Pos} (h : s.todo = [.abort e pos]) : s.pos = pos := by
  simp [State.pos, h, inPollRead, opPos]

/-- The abort path's `select_high` ends the command, whatever the answer. -/
theorem answerCall_abort {s : State} {e : Result} {pos : Pos} {rest : List Op} (h : s.todo = .abort e pos :: rest)
    (a : Answer) :
    pendingCall s = some .selectHigh ∧ answerCall .selectHigh a s = finish e (s.logged .selectHigh a) :=
  ⟨pendingCall_cons h, answerCall_cons h _ a⟩

/-- A call whose refusal finds no chip-select low belongs to no data phase. -/
theorem failureOf_of_not_leavesOpen {s : State} {op : Op} {k : WireCall} (hk : AtCall s op k)
    (hf : failKind (opPos op).st = failureOf k) (ho : ¬ leavesOpen k = true) : failureOf k = .transportCommandFailed := by
  have ensured {m : Mode} {b : Byte} {w : Bool} (hc : k.call = ensuring s m (.transfer b w)) : leavesOpen k = true := by
    rcases ensuring_cases s m (.transfer b w) with ⟨-, he⟩ | ⟨-, he⟩ <;> simp [leavesOpen, hc, he]
  rw [← hf]
  rcases opCall_cases hk.call with ⟨rfl, -⟩ | ⟨rfl, -⟩ | ⟨e, pos, rfl, -⟩ | ⟨pos, -, hc⟩ | ⟨p, rfl, -⟩ |
    ⟨pos, m, ms, -, hc⟩ | ⟨pd, b, -, hc⟩
  · rfl
  · rfl
  · exact absurd rfl (hk.running e pos)
  · exact absurd (by simp [leavesOpen, hc]) ho
  · rfl
  · exact absurd (ensured hc) ho
  · exact absurd (ensured hc) ho

/-- A refused call is followed by no other but the abort path's, and the command has ended. -/
theorem drive_refused {s : State} {op : Op} {rest : List Op} {k : WireCall} {bad close : Answer} {as : List Answer}
    (ht : s.todo = op :: rest) (hk : AtCall s op k) (hf : failKind (opPos op).st = failureOf k)
    (hr : refuses k bad = true) :
    drive (bad :: close :: as) s =
      if leavesOpen k then
        { finish (failureOf k) { (s.logged k.call bad).logged .selectHigh close with
            todo := [.abort (failureOf k) s.pos] } with xp := as }
      else { finish (failureOf k) (s.logged k.call bad) with xp := close :: as } := by
  have hc : pendingCall s = some k.call := (pendingCall_cons ht).trans hk.call
  rw [drive_call hc, answerCall_refused ht hk hr, hf]
  split
  · let t : State := { s.logged k.call bad with todo := [.abort (failureOf k) s.pos] }
    obtain ⟨hclose, hend⟩ := answerCall_abort (s := t) rfl close
    show drive (close :: as) t = _
    rw [drive_call hclose, hend, drive_finish]
    rfl
  · next ho =>
    rw [failureOf_of_not_leavesOpen hk hf ho, drive_finish]

end Sys2Proof.Machine
end

section
/-! SUPPORT. Where a run stops when its next call is refused: `Stops` says of a list of calls that, however many of them are
met, the run is then at the next one. It is proved for the items of a bracket along the way they run (`Resends`). -/

namespace Sys2Proof.Machine

/-! ## Being at a call -/

/-- SEQ is at the call `k`, and a failure there is the failure `k` stands for (60_exceptions.md R311, R312). -/
structure Poised (s : State) (k : WireCall) : Prop where
  at_call : ∃ op rest, s.todo = op :: rest ∧ AtCall s op k ∧ failKind (opPos op).st = failureOf k

/-- However many of the calls `cs` are met, a run from `s` is then at the next of them, in a state of which `R` holds. -/
def Stops (R : List WireCall → List Answer → WireCall → State → Prop) (c : Cfg) (s : State) (cs : List WireCall) : Prop :=
  ∀ (pre post : List WireCall) (k : WireCall) (as : List Answer), cs = pre ++ k :: post → meets c pre as = true →
    ∃ u, (∀ rest, drive (as ++ rest) s = drive rest u) ∧ Poised u k ∧ R pre as k u

section
variable {R : List WireCall → List Answer → WireCall → State → Prop} {c : Cfg} {s : State}

theorem stops_nil : Stops R c s [] := fun pre post k as h => by simp at h

theorem stops_one {k : WireCall} (hp : Poised s k) (hR : R [] [] k s) : Stops R c s [k] := by
  intro pre post k' as h hm
  obtain ⟨rfl, rfl, rfl⟩ : pre = [] ∧ k' = k ∧ post = [] := by
    cases pre with
    | nil => simpa [eq_comm] using h
    | cons x pre => simp at h
  obtain rfl := (meets_nil ..).1 hm
  exact ⟨s, fun _ => rfl, hp, hR⟩

theorem Stops.mono {R' : List WireCall → List Answer → WireCall → State → Prop} {cs : List WireCall} (h : Stops R c s cs)
    (hR : ∀ pre post k as u, cs = pre ++ k :: post → meets c pre as = true → R pre as k u → R' pre as k u) :
    Stops R' c s cs := by
  intro pre post k as he hm
  obtain ⟨u, hrun, hp, hu⟩ := h pre post k as he hm
  exact ⟨u, hrun, hp, hR pre post k as u he hm hu⟩

/-- Calls one after another: the first of them met, the run is where the others start. -/
theorem Stops.append {cs cs' : List WireCall} (h : Stops R c s cs)
    (h' : ∀ as, meets c cs as = true → ∃ t, (∀ rest, drive (as ++ rest) s = drive rest t) ∧
      Stops (fun pre as' => R (cs ++ pre) (as ++ as')) c t cs') : Stops R c s (cs ++ cs') := by
  intro pre post k as he hm
  rcases List.append_eq_append_iff.1 he with ⟨pre', rfl, he'⟩ | ⟨post', he', he''⟩
  · obtain ⟨as1, as2, rfl, hm1, hm2⟩ := (meets_append ..).1 hm
    obtain ⟨t, hrun, hstop⟩ := h' as1 hm1
    obtain ⟨u, hrun', hp, hu⟩ := hstop pre' post k as2 he' hm2
    exact ⟨u, fun rest => by rw [List.append_assoc, hrun, hrun'], hp, hu⟩
  · cases post' with
    | nil =>
      rw [List.append_nil] at he'
      subst he'
      obtain ⟨t, hrun, hstop⟩ := h' as hm
      obtain ⟨u, hrun', hp, hu⟩ := hstop [] post k [] (by simpa using he''.symm) rfl
      exact ⟨u, fun rest => by rw [hrun, ← hrun', List.nil_append], hp, by simpa using hu⟩
    | cons x post' =>
      obtain ⟨rfl, -⟩ := List.cons.inj he''
      exact h pre post' k as he' hm

end

/-! ## The calls of an item -/

/-- `u` is `s` after the calls `pre`, but for what is left to do. -/
def DidStop (s : State) (pre : List WireCall) (as : List Answer) (_ : WireCall) (u : State) : Prop :=
  ∃ m todo, u = { s.did pre as m with todo := todo }

/-- A run from `t`, which is `s` but for what is left to do, stops at each of the calls `cs`. -/
abbrev Halts (s t : State) (cs : List WireCall) : Prop := Stops (DidStop s) s.cfg t cs

section
variable {s : State} {op : Op} {k : List Op}

theorem Halts.append {t : State} {cs cs' : List WireCall} (h : Halts s t cs)
    (h' : ∀ as, meets s.cfg cs as = true → ∃ m t', (∀ rest, drive (as ++ rest) t = drive rest t') ∧
      Halts (s.did cs as m) t' cs') : Halts s t (cs ++ cs') := by
  refine Stops.append h fun as hm => ?_
  obtain ⟨m, t', hrun, hstop⟩ := h' as hm
  refine ⟨t', hrun, hstop.mono fun pre post k as' u _ _ hu => ?_⟩
  obtain ⟨m', todo, rfl⟩ := hu
  exact ⟨m + m', todo, by rw [did_append s (meets_length hm)]⟩

theorem didStop_start (s : State) (k : WireCall) (todo : List Op) : DidStop s [] [] k { s with todo := todo } :=
  ⟨0, todo, by rw [did_nil]⟩

/-- The one call an item makes. -/
theorem halts_one {w : WireCall} (hk : AtCall { s with todo := op :: k } op w)
    (hf : failKind (opPos op).st = failureOf w) : Halts s { s with todo := op :: k } [w] :=
  stops_one ⟨op, k, rfl, hk, hf⟩ (didStop_start ..)

theorem halts_ensure {want : Mode} {t : Call} {data : Bool}
    (hc : opCall { s with todo := op :: k } op = some (ensuring s want t)) (ha : ∀ e pos, op ≠ .abort e pos)
    (hf : failKind (opPos op).st = if data then .transportDataFailed else .transportCommandFailed) :
    Halts s { s with todo := op :: k } (ensureCalls data s.tm want) := by
  unfold ensureCalls
  split
  · exact stops_nil
  · next ht =>
    rw [ensuring, if_neg (Ne.symm ht)] at hc
    exact halts_one ⟨hc, ha, nofun⟩ hf

theorem halts_modeOff {pos : Pos} {data : Bool}
    (hf : failKind pos.st = if data then .transportDataFailed else .transportCommandFailed) :
    Halts s (settle (.modeOff pos :: k) s) (ensureCalls data s.tm narrowMode) := by
  unfold ensureCalls
  split
  · exact stops_nil
  · next ht =>
    rw [settle_modeOff pos k (Ne.symm ht)]
    exact halts_one ⟨rfl, nofun, nofun⟩ hf

end

/-! ## Phases -/

/-- An item that performs the phase `pd`, sending `b`, whatever the state of the bracket. -/
structure Performed (c : Cfg) (p : Sampled) (op : Op) (pd : PD) (b : Byte) (role : Role) (data : Bool) (tx : List Byte) :
    Prop where
  phase : ∀ s : State, s.cfg = c → s.smp = p → tx <+: s.txFifo → opPhase s op = some (pd, b)
  due : due op = true
  plain : pd.dummy = .none
  prompts : role.prompts = true
  sent : pd.actions.rsucc = true → role = .plain
  accepts : ∀ (s : State) (r : Byte), accept op pd.actions (.done r) s = s.took role r tx.length
  failure : failKind (opPos op).st = if data then .transportDataFailed else .transportCommandFailed

section
variable {c : Cfg} {p : Sampled} {op : Op} {pd : PD} {b : Byte} {role : Role} {data : Bool} {tx : List Byte}

theorem Performed.not_abort (h : Performed c p op pd b role data tx) {s : State} (hp : opPhase s op = some (pd, b)) :
    ∀ e pos, op ≠ .abort e pos := by
  rintro e pos rfl
  cases hp

/-- The transfer of a phase. -/
def transferCall (pd : PD) (b : Byte) (role : Role) (data : Bool) : WireCall :=
  { call := .transfer b pd.actions.wait, role := role, data := data, retry := pd.actions.rsucc }

/-- What an accepted transfer takes is what its call does. -/
theorem took_did (s : State) (a : Answer) (m : Nat) :
    { s.took role (byteOf a) m with
      trace := s.trace ++ [{ call := .transfer b pd.actions.wait, reply := .xfer a.xfer }] } =
      s.did [transferCall pd b role data] [a] m := by
  have hk : role.kept { call := .ok, xfer := .done (byteOf a), poll := .error } = role.kept a := by
    cases role <;> rfl
  simp only [State.took, hk, State.did, transferCall, modeAfter_transfer, traceOf, lastByte, capturedBytes,
    List.zip_cons_cons, List.zip_nil_right, List.map_cons, List.map_nil, replyTo, List.filterMap_cons,
    List.filterMap_nil]
  by_cases hcap : role = .captured <;> cases role.kept a <;> simp [hcap]

/-- The mode latched, a phase makes its transfer and returns the mode. -/
theorem halts_transfer (h : Performed c p op pd b role data tx) {s : State} (hc : s.cfg = c) (hp : s.smp = p)
    (ht : tx <+: s.txFifo) (htm : s.tm = pd.want) (k : List Op) :
    Halts s { s with todo := op :: k } ([transferCall pd b role data] ++ modeOffCalls pd data) := by
  let t : State := { s with todo := op :: k }
  have hop : opPhase t op = some (pd, b) := h.phase t hc hp ht
  have hcall : opCall t op = some (.transfer b pd.actions.wait) := by
    rw [opCall_phase hop, ensuring, if_pos htm]
  have first : Halts s t [transferCall pd b role data] :=
    halts_one (w := transferCall pd b role data) ⟨hcall, h.not_abort hop, fun _ _ _ => by rw [hop]; rfl⟩ h.failure
  refine first.append fun as hm => ?_
  obtain ⟨a, _, rfl, ha, hn⟩ := (meets_cons ..).1 hm
  obtain rfl := (meets_nil ..).1 hn
  obtain ⟨-, hx⟩ := Role.met_prompt h.prompts ha
  refine ⟨tx.length, _, fun rest => drive_call (s := t) hcall a rest, ?_⟩
  have hans : answerCall (.transfer b pd.actions.wait) a t =
      settle ((if pd.actions.modeOff then [.modeOff (opPos op)] else []) ++ afterAccept op ++ k)
        (s.did [transferCall pd b role data] [a] tx.length) := by
    rw [answerCall_cons (s := t) rfl]
    show answerTransfer op k a.xfer (t.logged _ a) = _
    rw [hx, answerTransfer_done ((opPhase_logged ..).trans hop), h.accepts, ← took_did]
    exact settle_todo _ (op :: k) ((s.logged (.transfer b pd.actions.wait) a).took role (byteOf a) tx.length)
  rw [hans]
  unfold modeOffCalls
  split
  · rw [List.append_assoc, List.singleton_append, ← htm]
    exact halts_modeOff h.failure
  · exact stops_nil

/-- The calls of a phase, with its byte declined as often as `ms` says. -/
theorem withRetries_phase (h : Performed c p op pd b role data tx) (tm : Mode) (ms : List Nat) :
    ∃ n, (pd.actions.rsucc = true ∨ n = 0) ∧ withRetries ms (wireCalls c tm [.phase pd b role data]) =
      ensureCalls data tm pd.want ++ (List.replicate n (declinedCall b pd.actions.wait data) ++
        ([transferCall pd b role data] ++ modeOffCalls pd data)) := by
  cases hr : pd.actions.rsucc with
  | true =>
    obtain rfl := h.sent hr
    refine ⟨ms.headD 0, .inl rfl, ?_⟩
    rw [withRetries_sent h.plain hr]
    simp only [transferCall, sentCall, hr, List.singleton_append]
  | false =>
    have once : ∀ w ∈ [WireItem.phase pd b role data], w.once = true := by simp [WireItem.once, hr]
    refine ⟨0, .inr rfl, ?_⟩
    rw [withRetries_of_none (wireCalls_once c tm once)]
    simp [wireCalls, WireItem.calls, h.plain, latched, transferCall, modeOffCalls]

theorem halts_declined (h : Performed c p op pd b role data tx) (hr : pd.actions.rsucc = true) (n : Nat) {s : State}
    (hc : s.cfg = c) (hp : s.smp = p) (ht : tx <+: s.txFifo) (htm : s.tm = pd.want) (k : List Op) :
    Halts s { s with todo := op :: k } (List.replicate n (declinedCall b pd.actions.wait data)) := by
  have hop (t : State) (hc : t.cfg = c) (hp : t.smp = p) (ht : tx <+: t.txFifo) :
      settle (op :: k) t = { t with todo := op :: k } := settle_due (by rw [h.phase t hc hp ht]; rfl) h.due k
  induction n generalizing s with
  | zero => exact stops_nil
  | succ n ih =>
    let t : State := { s with todo := op :: k }
    have hphase : opPhase t op = some (pd, b) := h.phase t hc hp ht
    have hcall : opCall t op = some (.transfer b pd.actions.wait) := by
      rw [opCall_phase hphase, ensuring, if_pos htm]
    have first : Halts s t [declinedCall b pd.actions.wait data] :=
      halts_one (w := declinedCall b pd.actions.wait data)
        ⟨hcall, h.not_abort hphase, fun _ _ _ => by rw [hphase]; exact hr⟩ h.failure
    rw [List.replicate_succ, ← List.singleton_append]
    refine first.append fun as hm => ⟨0, _, fun rest => ?_, ih (s := s.did _ as 0) hc hp ht ?_⟩
    · have hrun := drive_declined (k := k) h.due hr 1 s as rest (h.phase s hc hp ht) htm hm
      rwa [hop s hc hp ht, hop (s.did _ as 0) hc hp ht] at hrun
    · exact (modeAfter_declined s.tm 1 b pd.actions.wait data).trans htm

theorem halts_phase (h : Performed c p op pd b role data tx) (ms : List Nat) {s : State} (hc : s.cfg = c) (hp : s.smp = p)
    (ht : tx <+: s.txFifo) (k : List Op) :
    Halts s (settle (op :: k) s) (withRetries ms (wireCalls c s.tm [.phase pd b role data])) := by
  have hset (t : State) (hc : t.cfg = c) (hp : t.smp = p) (ht : tx <+: t.txFifo) :
      settle (op :: k) t = { t with todo := op :: k } := settle_due (by rw [h.phase t hc hp ht]; rfl) h.due k
  obtain ⟨n, hn, hcalls⟩ := withRetries_phase h s.tm ms
  have hphase : opPhase s op = some (pd, b) := h.phase s hc hp ht
  have hphase' : opPhase { s with todo := op :: k } op = some (pd, b) := h.phase _ hc hp ht
  rw [hcalls, hset s hc hp ht]
  refine (halts_ensure (opCall_phase hphase') (h.not_abort hphase) h.failure).append fun as hm => ?_
  let s1 := s.did (ensureCalls data s.tm pd.want) as 0
  have htm : s1.tm = pd.want := modeAfter_ensureCalls ..
  refine ⟨0, { s1 with todo := op :: k }, fun rest => drive_ensure (opCall_phase hphase)
    (fun tm tr => hset _ hc hp ht) hm, ?_⟩
  rcases hn with hr | rfl
  · refine (halts_declined (s := s1) h hr n hc hp ht htm k).append fun as' hm' => ?_
    let s2 := s1.did (List.replicate n (declinedCall b pd.actions.wait data)) as' 0
    refine ⟨0, { s2 with todo := op :: k }, fun rest => ?_,
      halts_transfer (s := s2) h hc hp ht ((modeAfter_declined ..).trans htm) k⟩
    have hrun := drive_declined (k := k) h.due hr n s1 as' rest (h.phase s1 hc hp ht) htm hm'
    rwa [hset s1 hc hp ht, hset s2 hc hp ht] at hrun
  · exact halts_transfer (s := s1) h hc hp ht htm k

/-- The transfers of a dummy preset. -/
theorem halts_preset {pos : Pos} (hpos : failKind pos.st = .transportCommandFailed) (k : List Op) (modes : List Mode)
    (s : State) : Halts s (settle (.preset pos modes :: k) s) (presetCalls s.cfg.dummyByte s.tm modes) := by
  induction modes generalizing s with
  | nil => exact stops_nil
  | cons m ms ih =>
    have hset (t : State) : settle (.preset pos (m :: ms) :: k) t = { t with todo := .preset pos (m :: ms) :: k } := rfl
    rw [presetCalls, hset]
    refine (halts_ensure (data := false) (opCall_preset ..) nofun hpos).append fun as hm => ?_
    let s1 := s.did (ensureCalls false s.tm m.norm) as 0
    let t : State := { s1 with todo := .preset pos (m :: ms) :: k }
    have htm : s1.tm = m.norm := modeAfter_ensureCalls ..
    have hcall : opCall t (.preset pos (m :: ms)) = some (.transfer s.cfg.dummyByte true) := by
      rw [opCall_preset, ensuring, if_pos htm]
      rfl
    have first : Halts s1 t [{ call := .transfer s.cfg.dummyByte true, role := .plain }] :=
      halts_one ⟨hcall, nofun, fun _ _ _ => rfl⟩ hpos
    refine ⟨0, t, fun rest => drive_ensure (opCall_preset ..) (fun tm tr => hset _) hm, ?_⟩
    rw [← List.singleton_append]
    refine first.append fun as' hm' => ?_
    obtain ⟨a, _, rfl, ha, hn⟩ := (meets_cons ..).1 hm'
    obtain rfl := (meets_nil ..).1 hn
    have hans : answerCall (.transfer s.cfg.dummyByte true) a t =
        settle (.preset pos ms :: k) (s1.did [{ call := .transfer s.cfg.dummyByte true, role := .plain }] [a] 0) := by
      rw [answerCall_preset_done (s := t) rfl (Role.met_prompt rfl ha).2]
      have hdid : s1.did [{ call := .transfer s.cfg.dummyByte true, role := .plain }] [a] 0 =
          s1.logged (.transfer s.cfg.dummyByte true) a := by
        simp [State.did, State.logged, modeAfter, capturedBytes, sumInto, lastByte, traceOf, Role.kept]
      rw [hdid]
      exact settle_todo _ (.preset pos (m :: ms) :: k) (s1.logged ..)
    refine ⟨0, _, fun rest => drive_call (s := t) hcall a rest, ?_⟩
    rw [hans, ← htm]
    exact ih (s1.did _ [a] 0)

end

end Sys2Proof.Machine
end

section
/-! SUPPORT. Brackets along the way they run: `Follows` is `Resends`, and the run stops at each of the calls. -/

namespace Sys2Proof.Machine

/-- Like `ResendsTo`, and the run is at each of the calls when those before it are met. -/
structure FollowsTo (c : Cfg) (p : Sampled) (ops : List Op) (ws : List WireItem) (tx : List Byte) (mid : List Op) : Prop
    extends ResendsTo c p ops ws tx mid where
  halts : ∀ (ms : List Nat) (s : State) (k : List Op), s.cfg = c → s.smp = p → tx <+: s.txFifo →
    Halts s (settle (ops ++ k) s) (withRetries ms (wireCalls c s.tm ws))

/-- `FollowsTo` with nothing of the items left. -/
abbrev Follows (c : Cfg) (p : Sampled) (ops : List Op) (ws : List WireItem) (tx : List Byte) : Prop :=
  FollowsTo c p ops ws tx []

section
variable {c : Cfg} {p : Sampled} {ops ops' mid end_ : List Op} {ws ws' : List WireItem} {tx tx' : List Byte}

theorem FollowsTo.trans (h : FollowsTo c p ops ws tx mid) (h' : FollowsTo c p mid ws' tx' end_) :
    FollowsTo c p ops (ws ++ ws') (tx ++ tx') end_ where
  toResendsTo := h.toResendsTo.trans h'.toResendsTo
  halts ms s k hc hp ht := by
    have ht1 : tx <+: s.txFifo := (List.prefix_append tx tx').trans ht
    have ht2 : tx' <+: s.txFifo.drop tx.length := by
      obtain ⟨f, hf⟩ := ht
      exact ⟨f, by rw [← hf, List.append_assoc, List.drop_left]⟩
    rw [wireCalls_append, withRetries_append]
    subst hc
    refine (h.halts ms s k rfl hp ht1).append fun as hm =>
      ⟨tx.length, _, fun rest => h.runs ms s as rest k rfl hp ht1 hm, ?_⟩
    have htm : (s.did (withRetries ms (wireCalls s.cfg s.tm ws)) as tx.length).tm = wireTm s.cfg s.tm ws := by
      rw [did_tm, modeAfter_withRetries, h.mode]
    rw [← htm]
    exact h'.halts _ (s.did _ as tx.length) k rfl hp ht2

theorem FollowsTo.append (h : Follows c p ops ws tx) (h' : Follows c p ops' ws' tx') :
    Follows c p (ops ++ ops') (ws ++ ws') (tx ++ tx') := by
  have start : FollowsTo c p (ops ++ ops') ws tx ops' :=
    { mode := h.mode
      runs := fun ms s as rest k hc hp ht hm => by
        rw [List.append_assoc, h.runs ms s as rest (ops' ++ k) hc hp ht hm]
        rfl
      halts := fun ms s k hc hp ht => by
        rw [List.append_assoc]
        exact h.halts ms s (ops' ++ k) hc hp ht }
  exact start.trans h'

/-- Items that make no call. -/
theorem RunsTo.follows (h : RunsTo c p ops [] [] mid) : FollowsTo c p ops [] [] mid where
  toResendsTo := h.resends (by simp)
  halts _ _ _ _ _ _ := stops_nil

theorem follows_nil : Follows c p [] [] [] := (Runs.nil c p).follows

/-! ## The items of a bracket -/

theorem follows_select : Follows c p [.select] [.select] [] where
  toResendsTo := (runs_select c p).resends (by simp [WireItem.once])
  halts _ _ _ _ _ _ := halts_one (w := { call := .selectLow, role := .plain }) ⟨rfl, nofun, nofun⟩ rfl

theorem follows_deselect : Follows c p [.deselect] [.deselect] [] where
  toResendsTo := (runs_deselect c p).resends (by simp [WireItem.once])
  halts _ _ _ _ _ _ := halts_one (w := { call := .selectHigh, role := .plain }) ⟨rfl, nofun, nofun⟩ rfl

theorem follows_phase {op : Op} {pd : PD} {b : Byte} {role : Role} {data : Bool}
    (h : Performed c p op pd b role data tx) : FollowsTo c p [op] [.phase pd b role data] tx (afterAccept op) where
  toResendsTo := by
    cases hr : pd.actions.rsucc with
    | true =>
      obtain rfl := h.sent hr
      exact resends_phase h.phase h.due h.plain hr h.accepts
    | false =>
      exact (runs_phase h.phase h.due h.plain h.prompts h.accepts).resends (by simp [WireItem.once, hr])
  halts ms s k hc hp ht := halts_phase h ms hc hp ht k

/-! ## Address and dummy phases -/

/-- A phase that stands outside DAT, captures nothing and is made once. -/
def PhaseAt.bare (x : PhaseAt) : Bool :=
  !x.pd.actions.capture && !x.pd.actions.rsucc && x.pos.st != .dat

theorem bare_iff (x : PhaseAt) : x.bare = true ↔
    x.pd.actions.capture = false ∧ x.pd.actions.rsucc = false ∧ x.pos.st ≠ .dat := by
  simp [PhaseAt.bare, and_assoc]

theorem failKind_of_ne_dat {st : SeqSt} (h : st ≠ .dat) : failKind st = .transportCommandFailed := by
  cases st with
  | dat => exact absurd rfl h
  | _ => rfl

theorem follows_presetPhase {x : PhaseAt} (h : x.bare = true) (hn : x.pd.dummy ≠ .none) :
    Follows c p (phaseOps c x.pos x.pd x.tx) [x.wire] [] where
  toResendsTo := (runs_preset x.pos x.tx hn).resends (by simpa [WireItem.once] using ((bare_iff x).1 h).2.1)
  halts ms s k hc hp ht := by
    subst hc
    obtain ⟨-, hr, hpos⟩ := (bare_iff x).1 h
    have hfail := failKind_of_ne_dat hpos
    have once : ∀ w ∈ [x.wire], w.once = true := by simp [PhaseAt.wire, WireItem.once, hr]
    have hlat : latched s.cfg s.tm x.pd =
        modeAfter s.tm (presetCalls s.cfg.dummyByte s.tm (s.cfg.dummyModes x.pd.dummy)) := by
      rw [latched, if_neg hn, modeAfter_presetCalls]
    rw [withRetries_of_none (wireCalls_once _ _ once)]
    simp only [PhaseAt.wire, wireCalls, WireItem.calls, if_neg hn, List.append_nil, phaseOps, List.cons_append]
    refine (halts_preset hfail _ _ s).append fun as hm =>
      ⟨0, _, fun rest => drive_preset _ s as rest rfl hm, ?_⟩
    split
    · rw [hlat]
      exact halts_modeOff (s := s.did _ as 0) hfail
    · exact stops_nil

theorem follows_plainPhase {x : PhaseAt} (h : x.bare = true) (hn : x.pd.dummy = .none) :
    Follows c p (phaseOps c x.pos x.pd x.tx) [x.wire] [] := by
  obtain ⟨hcap, hr, hpos⟩ := (bare_iff x).1 h
  have hops : phaseOps c x.pos x.pd x.tx = [.phase x.pos x.pd x.tx] := by simp [phaseOps, hn]
  rw [hops]
  exact follows_phase (op := .phase x.pos x.pd x.tx)
    { phase := fun _ _ _ _ => rfl
      due := rfl
      plain := hn
      prompts := rfl
      sent := fun _ => rfl
      accepts := fun s r => by simp [accept, hcap, State.took, sumInto, Role.kept]
      failure := failKind_of_ne_dat hpos }

theorem follows_phases {xs : List PhaseAt} (h : ∀ x ∈ xs, x.bare = true) :
    Follows c p (xs.flatMap fun x => phaseOps c x.pos x.pd x.tx) (xs.map PhaseAt.wire) [] := by
  induction xs with
  | nil => exact follows_nil
  | cons x xs ih =>
    obtain ⟨hx, hxs⟩ := List.forall_mem_cons.1 h
    rw [List.flatMap_cons, List.map_cons, ← List.singleton_append]
    by_cases hn : x.pd.dummy = .none
    · exact (follows_plainPhase hx hn).append (ih hxs)
    · exact (follows_presetPhase hx hn).append (ih hxs)

theorem bare_markLast {off : PD → Bool} {xs : List PhaseAt} (h : ∀ x ∈ xs, x.bare = true) :
    ∀ x ∈ markLast off xs, x.bare = true := by
  induction xs with
  | nil => exact h
  | cons x rest ih =>
    obtain ⟨hx, hrest⟩ := List.forall_mem_cons.1 h
    cases rest with
    | nil =>
      refine List.forall_mem_singleton.2 ?_
      split
      · exact hx
      · exact hx
    | cons y ys => exact List.forall_mem_cons.2 ⟨hx, ih hrest⟩

end

section
variable {c : Cfg} {p : Sampled} {d : CmdDesc} {addr addr2 : Word} {len : Nat} {tx used : List Byte} {keep : Role}

/-- The address and dummy phases of a bracket, before the last of them is marked. -/
def plainHead (c : Cfg) (p : Sampled) (d : CmdDesc) (addr addr2 : Word) : List PhaseAt :=
  addrPhases c p d addr addr2 ++
    ((d.shapeIn c).dummy.zipIdx.map fun (x : DummyItem × Nat) => dummyPhases c p x.2 x.1).flatten

theorem headPhases_eq : headPhases c p d addr addr2 len =
    if d.data.phases len = 0 then markLast (closesMode p d.opcodeOff) (plainHead c p d addr addr2)
    else plainHead c p d addr addr2 := rfl

theorem bare_plainHead : ∀ x ∈ plainHead c p d addr addr2, x.bare = true := by
  refine List.forall_mem_append.2 ⟨List.forall_mem_map.2 fun _ _ => rfl, fun x hx => ?_⟩
  obtain ⟨l, hl, hx⟩ := List.mem_flatten.1 hx
  obtain ⟨⟨item, i⟩, -, rfl⟩ := List.mem_map.1 hl
  cases item with
  | bytes n n4 l r dir =>
    obtain ⟨-, rfl⟩ := List.mem_replicate.1 hx
    rfl
  | preset k =>
    obtain rfl := List.mem_singleton.1 hx
    rfl

theorem plainHead_wire : (plainHead c p d addr addr2).map PhaseAt.wire =
    (addrPhaseBytes c d.addr p.a4b addr addr2).map (fun b => WireItem.phase (pdAdr (d.shapeIn c).addrM p.qpi) b .plain) ++
      (d.shapeIn c).dummy.flatMap (dummyWire c p) := by
  have hitems : (d.shapeIn c).dummy.flatMap (dummyWire c p) =
      ((d.shapeIn c).dummy.zipIdx.map fun x => dummyWire c p x.1).flatten := by
    rw [List.flatMap_def]
    conv_lhs => rw [← List.zipIdx_map_fst 0 (d.shapeIn c).dummy]
    rw [List.map_map]
    rfl
  rw [plainHead, List.map_append, addrPhases_wire, hitems, List.map_flatten, List.map_map]
  congr 2
  exact List.map_congr_left fun x _ => dummyPhases_wire c p x.2 x.1

theorem follows_head (h : DataFits p d len tx used keep) :
    Follows c p ((headPhases c p d addr addr2 len).flatMap fun x => phaseOps c x.pos x.pd x.tx)
      (let head := (addrPhaseBytes c d.addr p.a4b addr addr2).map
          (fun b => WireItem.phase (pdAdr (d.shapeIn c).addrM p.qpi) b .plain) ++
          (d.shapeIn c).dummy.flatMap (dummyWire c p)
       if (dataWire c p (d.shapeIn c).dataM d.data p.len.toNat tx keep).isEmpty then endNarrow p.qpi d.opcodeOff head
       else head) [] := by
  simp only [headPhases_eq, dataWire_isEmpty (d.shapeIn c).dataM h, decide_eq_true_eq, ← plainHead_wire]
  split
  · rw [← markLast_wire]
    exact follows_phases (bare_markLast bare_plainHead)
  · exact follows_phases bare_plainHead

/-! ## Data phases -/

theorem follows_rx (m : Width) (count : Nat) : ∀ (d i : Nat), i + d = count →
    Follows c p [.rx m i count]
      ((List.range' i d).map fun i => .phase (pdRx m p.qpi (i + 1 == count)) c.dummyByte .captured true) []
  | 0, i, h => RunsTo.follows (.skip fun s k _ => by
      rw [List.singleton_append, settle, if_neg (by omega)]
      rfl)
  | d + 1, i, h => by
    have first : Performed c p (.rx m i count) (pdRx m p.qpi (i + 1 == count)) c.dummyByte .captured true [] :=
      { phase := fun s hc hp _ => by rw [← hc, ← hp]; rfl
        due := by simp [due]; omega
        plain := rfl
        prompts := rfl
        sent := nofun
        accepts := fun s r => by simp [accept, rxPush, State.took, pdRx, sumInto, Role.kept]
        failure := rfl }
    rw [List.range'_succ, List.map_cons, ← List.singleton_append]
    exact (follows_phase first).trans (follows_rx m count d (i + 1) (by omega))

theorem follows_rxi (hk : keepsByte keep = true) :
    Follows c p [.rxi] [.phase (pdRxi p.qpi) c.dummyByte keep true] [] :=
  follows_phase (op := .rxi)
    { phase := fun s hc hp _ => by rw [← hc, ← hp]; rfl
      due := rfl
      plain := rfl
      prompts := by cases keep <;> simp_all [keepsByte, Role.prompts]
      sent := nofun
      accepts := fun s r => by
        cases keep <;> simp_all [keepsByte, accept, State.took, sumInto, Role.kept, byteOf]
      failure := rfl }

theorem follows_txFifo (m : Width) (count : Nat) : ∀ (tx : List Byte) (i : Nat), i + tx.length = count →
    Follows c p [.tx m i count .fifo]
      ((tx.zipIdx i).map fun x => .phase (pdTx m p.qpi (x.2 + 1 == count)) x.1 .plain true) tx
  | [], i, h => RunsTo.follows (.skip fun s k _ => by
      rw [List.length_nil] at h
      rw [List.singleton_append, settle, if_neg (by omega)]
      rfl)
  | b :: tx, i, h => by
    rw [List.length_cons] at h
    have first : Performed c p (.tx m i count .fifo) (pdTx m p.qpi (i + 1 == count)) b .plain true [b] :=
      { phase := fun s hc hp ht => by
          obtain ⟨f, hf⟩ := ht
          rw [opPhase_tx (b := b) (by rw [txByte, ← hf]; rfl), hp]
        due := by simp only [due, decide_eq_true_eq]; omega
        plain := rfl
        prompts := rfl
        sent := fun _ => rfl
        accepts := fun s r => by rw [accept_tx _ rfl]; simp [State.took, sumInto, Role.kept, List.drop_one]
        failure := rfl }
    rw [List.zipIdx_cons, List.map_cons, ← List.singleton_append, ← List.singleton_append (l := tx)]
    exact (follows_phase first).trans (follows_txFifo m count tx (i + 1) (by omega))

theorem follows_txArg (m : Width) :
    Follows c p [.tx m 0 1 .arg] [.phase (pdTx m p.qpi true) p.arg .plain true] [] := by
  have first : Performed c p (.tx m 0 1 .arg) (pdTx m p.qpi true) p.arg .plain true [] :=
    { phase := fun s hc hp _ => by rw [← hp]; rfl
      due := rfl
      plain := rfl
      prompts := rfl
      sent := fun _ => rfl
      accepts := fun s r => by rw [accept_tx _ rfl]; simp [State.took, sumInto, Role.kept]
      failure := rfl }
  have last : RunsTo c p [.tx m 1 1 .arg] [] [] [] := .skip fun _ _ _ => rfl
  exact (follows_phase first).trans last.follows

theorem follows_data (m : Width) (h : DataFits p d len tx used keep) :
    Follows c p (dataOps m d.data len) (dataWire c p m d.data p.len.toNat tx keep) used := by
  unfold DataFits at h
  cases hd : d.data with
  | noData =>
    rw [hd] at h
    obtain rfl := h
    exact follows_nil
  | rx k =>
    rw [hd] at h
    obtain ⟨rfl, hk⟩ := h
    simp only [dataOps, dataWire, hk, List.range_eq_range']
    exact follows_rx m _ _ 0 (by omega)
  | rxi =>
    rw [hd] at h
    obtain ⟨rfl, hk⟩ := h
    exact follows_rxi hk
  | tx k =>
    rw [hd] at h
    rcases h with ⟨hs, rfl, hl⟩ | ⟨rfl, rfl, rfl⟩
    · simp only [dataOps, dataWire, hs, ← hl]
      exact follows_txFifo m _ used 0 (by omega)
    · exact follows_txArg m

/-- A whole bracket (41_sequencer_poller.md R154 to R160). -/
theorem follows_bracket (h : DataFits p d len tx used keep) :
    Follows c p (bracketOps c p d addr addr2 len) (bracketWire c p d addr addr2 tx keep) used := by
  have hopc : Follows c p [.opcode d.opc (d.opcodeOff && p.qpi)]
      [.phase (pdOpc p.qpi (d.opcodeOff && p.qpi)) (c.opcode p.a4b d.opc) .plain] [] :=
    follows_phase (op := .opcode d.opc (d.opcodeOff && p.qpi))
      { phase := fun s hc hp _ => by rw [← hc, ← hp]; rfl
        due := rfl
        plain := rfl
        prompts := rfl
        sent := nofun
        accepts := fun s r => by simp [accept, State.took, sumInto, Role.kept, pdOpc]
        failure := rfl }
  have := ((follows_select.append hopc).append (follows_head (addr := addr) (addr2 := addr2) h)).append
    ((follows_data (d.shapeIn c).dataM h).append follows_deselect)
  simpa [bracketOps, bracketWire] using this

end

end Sys2Proof.Machine
end

section
/-! SUPPORT. Commands along the way they run: `Proceeds` is `Performs` with the brackets of `Follows`, so that a run also
stops at each call of a command, of its waits' reads among them, with LASTSR the last status byte of a closed read. -/

namespace Sys2Proof.Machine

/-! ## A command's state at a call -/

/-- Of the calls `pre`, those whose status byte has reached LASTSR when `k` comes next: a poll read's byte does when its
bracket has closed (41_sequencer_poller.md R168). -/
def closedCalls (pre : List WireCall) (k : WireCall) : List WireCall := if k.call = .selectHigh then pre.dropLast else pre

/-- `u` is `s` after the calls `pre` of a command, the bracket of a status read among them not yet closed. -/
def CommandStop (s : State) (pre : List WireCall) (as : List Answer) (k : WireCall) (u : State) : Prop :=
  (pre = [] → k.call ≠ .selectHigh) ∧ ∃ m n w todo,
    u = { (s.waited pre as m n).atWork w with
      lastSr := lastByte Role.status (closedCalls pre k) as s.lastSr, todo := todo }

section
variable {s : State} {pre : List WireCall} {as : List Answer} {k : WireCall} {u : State}

theorem mem_closedCalls {x : WireCall} (h : x ∈ closedCalls pre k) : x ∈ pre := by
  unfold closedCalls at h
  split at h
  · exact List.mem_of_mem_dropLast h
  · exact h

theorem closedCalls_append {cs : List WireCall} (h : pre = [] → k.call ≠ .selectHigh) :
    closedCalls (cs ++ pre) k = cs ++ closedCalls pre k := by
  unfold closedCalls
  split
  · next hk => rw [List.dropLast_append_of_ne_nil fun hnil => h hnil hk]
  · rfl

/-- Inside a bracket LASTSR stays. -/
theorem commandStop_of_did (hs : DidStop s pre as k u) (hq : ∀ x ∈ closedCalls pre k, quiet x.role = true)
    (hfirst : pre = [] → k.call ≠ .selectHigh) : CommandStop s pre as k u := by
  obtain ⟨m, todo, rfl⟩ := hs
  refine ⟨hfirst, m, s.n, s.work, todo, ?_⟩
  rw [(quiet_status hq as s.lastSr).1]
  rfl

theorem commandStop_append {cs : List WireCall} {as' : List Answer} (hl : cs.length = as.length) {m : Nat} {n : Word}
    {w : Work} (h : CommandStop ((s.waited cs as m n).atWork w) pre as' k u) :
    CommandStop s (cs ++ pre) (as ++ as') k u := by
  obtain ⟨hfirst, m', n', w', todo, rfl⟩ := h
  refine ⟨fun hnil => hfirst (List.append_eq_nil_iff.1 hnil).2, m + m', n', w', todo, ?_⟩
  rw [closedCalls_append hfirst, lastByte_append _ hl, waited_append s hl m m' n n']
  rfl

/-- WRITE's working registers and N do not matter for where a run stops. -/
theorem commandStop_work {n : Word} {w : Work} (h : CommandStop { s.atWork w with n := n } pre as k u) :
    CommandStop s pre as k u := by
  obtain ⟨hfirst, m, n', w', todo, rfl⟩ := h
  exact ⟨hfirst, m, n', w', todo, rfl⟩

end

theorem stops_command_append {s t : State} {c : Cfg} {cs cs' : List WireCall} (h : Stops (CommandStop s) c t cs)
    (h' : ∀ as, meets c cs as = true → ∃ m n w t', (∀ rest, drive (as ++ rest) t = drive rest t') ∧
      Stops (CommandStop ((s.waited cs as m n).atWork w)) c t' cs') : Stops (CommandStop s) c t (cs ++ cs') := by
  refine h.append fun as hm => ?_
  obtain ⟨m, n, w, t', hrun, hstop⟩ := h' as hm
  exact ⟨t', hrun, hstop.mono fun pre post k as' u _ _ hu => commandStop_append (meets_length hm) hu⟩

/-! ## Brackets -/

/-- The items, if any, begin with a bracket's chip-select. -/
def opensBracket (ws : List WireItem) : Bool :=
  match ws with
  | [] => true
  | .select :: _ => true
  | _ => false

section
variable {c : Cfg} {p : Sampled} {ops : List Op} {ws : List WireItem} {tx : List Byte}

/-- The first call of a bracket is `select_low`. -/
theorem first_ne_selectHigh (ho : opensBracket ws = true) {ms : List Nat} {tm : Mode} {pre post : List WireCall}
    {k : WireCall} (h : withRetries ms (wireCalls c tm ws) = pre ++ k :: post) : pre = [] → k.call ≠ .selectHigh := by
  rintro rfl
  cases ws with
  | nil => cases h
  | cons w ws =>
    cases w with
    | select =>
      obtain ⟨rfl, -⟩ := List.cons.inj h
      simp
    | deselect | phase _ _ _ _ | assist _ => cases ho

theorem Follows.stops (h : Follows c p ops ws tx) (hq : ws.all (WireItem.has quiet) = true) (ho : opensBracket ws = true)
    (ms : List Nat) {s : State} (hc : s.cfg = c) (hp : s.smp = p) (ht : tx <+: s.txFifo) (k : List Op) :
    Stops (CommandStop s) c (settle (ops ++ k) s) (withRetries ms (wireCalls c s.tm ws)) := by
  subst hc
  have silent := roles_withRetries (P := quiet) rfl (roles_wireCalls rfl s.cfg s.tm ws hq) ms
  refine (h.halts ms s k rfl hp ht).mono fun pre post w as u he _ hu =>
    commandStop_of_did hu (fun x hx => silent x ?_) (first_ne_selectHigh ho he)
  rw [he]
  exact List.mem_append_left _ (mem_closedCalls hx)

/-! ## Waits -/

/-- In a poll read only its last call but one brings a status byte, and that is closed by none of its calls. -/
theorem closed_statusRead {tm : Mode} {r : Role} {pre post : List WireCall} {k : WireCall}
    (h : wireCalls c tm (statusWire c p r) = pre ++ k :: post) : ∀ x ∈ closedCalls pre k, x.role = .plain := by
  obtain ⟨front, hcalls, hfront⟩ := statusWire_calls c p tm r
  rw [hcalls] at h
  rcases List.eq_nil_or_concat post with rfl | ⟨post, y, rfl⟩
  · obtain ⟨rfl, hk⟩ := List.append_inj' h rfl
    obtain ⟨rfl, -⟩ := List.cons.inj hk
    simpa [closedCalls] using hfront
  · rw [List.concat_eq_append, ← List.cons_append, ← List.append_assoc] at h
    obtain ⟨h, -⟩ := List.append_inj' h rfl
    rcases List.eq_nil_or_concat post with rfl | ⟨post, z, rfl⟩
    · obtain ⟨rfl, -⟩ := List.append_inj' h rfl
      exact fun x hx => hfront x (mem_closedCalls hx)
    · rw [List.concat_eq_append, ← List.cons_append, ← List.append_assoc] at h
      obtain ⟨rfl, -⟩ := List.append_inj' h rfl
      exact fun x hx => hfront x (List.mem_append_left _ (mem_closedCalls hx))

variable {sp : PollSpec}

theorem stops_statusRead {r : Role} (hr : keepsByte r = true) {s : State} {k : List Op} (hc : s.cfg = c) (hp : s.smp = p)
    (hn : s.n.toNat ≠ c.budget sp.cls) :
    Stops (CommandStop s) c (pollLoop sp k s) (wireCalls c s.tm (statusWire c p r)) := by
  subst hc hp
  have hloop : pollLoop sp k s = settle (statusReadOps s.cfg s.smp ++ (.pollTest sp :: k)) s := by
    rw [pollLoop_eq, if_neg hn]
    rfl
  have hread : Follows s.cfg s.smp (statusReadOps s.cfg s.smp) (statusWire s.cfg s.smp r) [] :=
    follows_bracket (d := statusReadDesc) (len := 0) (tx := []) ⟨rfl, hr⟩
  have hstop := hread.halts [] s (.pollTest sp :: k) rfl rfl List.nil_prefix
  rw [withRetries_nil] at hstop
  rw [hloop]
  refine hstop.mono fun pre post w as u he _ hu => commandStop_of_did hu (fun x hx => ?_) ?_
  · rw [closed_statusRead he x hx]
    rfl
  · exact first_ne_selectHigh (ws := statusWire s.cfg s.smp r) (ms := []) rfl (by rw [withRetries_nil]; exact he)

theorem stops_pendingReads (k : Nat) {j : Nat} {s : State} {ops : List Op} (hc : s.cfg = c) (hp : s.smp = p)
    (hj : s.n = BitVec.ofNat 32 j) (hn : CountsTo (c.budget sp.cls) j k) :
    Stops (CommandStop s) c (pollLoop sp ops s) (wireCalls c s.tm (pendingReads c p sp k)) := by
  induction k generalizing s j with
  | zero => exact stops_nil
  | succ k ih =>
    have h0 : s.n.toNat ≠ c.budget sp.cls := by rw [hj]; exact hn 0 (by omega)
    rw [pendingReads_succ, wireCalls_append]
    refine stops_command_append (stops_statusRead rfl hc hp h0) fun as hm => ?_
    let s1 := s.waited (wireCalls c s.tm (statusWire c p (.pending sp))) as 0 (s.n + 1)
    have htm : s1.tm = wireTm c s.tm (statusWire c p (.pending sp)) := modeAfter_statusWire ..
    have hn1 : s1.n = BitVec.ofNat 32 (j + 1) := by
      show s.n + 1 = _
      rw [hj, BitVec.ofNat_add]
      rfl
    refine ⟨0, s.n + 1, s.work, pollLoop sp ops s1, fun rest => ?_, ?_⟩
    · rw [drive_statusRead (.inr rfl) hc hp h0 hm, if_neg (by simp)]
    · rw [← htm]
      exact ih (s := s1) hc hp hn1 hn.tail

theorem stops_wait {k : Nat} (hb : k < c.budget sp.cls) (h32 : k < 2 ^ 32) {s : State} {ops : List Op} (hc : s.cfg = c)
    (hp : s.smp = p) :
    Stops (CommandStop s) c (settle (.poll sp :: ops) s) (wireCalls c s.tm (waitReads c p sp k)) := by
  cases hi : c.pollImpl with
  | reads =>
    have hW : waitReads c p sp k = pendingReads c p sp k ++ statusWire c p (.polled sp) := by simp only [waitReads, hi]
    let s0 : State := { s with n := 0 }
    have hcount := countsTo_of_le (le_of_lt hb) (.inr h32)
    rw [hW, wireCalls_append, settle_poll_reads hi hc]
    refine stops_command_append ((stops_pendingReads (s := s0) k hc hp rfl hcount).mono
      fun pre post w as u _ _ hu => commandStop_work (w := s.work) hu) fun as hm => ?_
    let s1 := s0.waited (wireCalls c s.tm (pendingReads c p sp k)) as 0 (BitVec.ofNat 32 (0 + k))
    have htm : s1.tm = wireTm c s.tm (pendingReads c p sp k) := modeAfter_pendingReads ..
    have hk : s1.n.toNat ≠ c.budget sp.cls := by
      show (BitVec.ofNat 32 (0 + k)).toNat ≠ _
      rw [BitVec.toNat_ofNat, Nat.mod_eq_of_lt (by omega)]
      omega
    refine ⟨0, BitVec.ofNat 32 (0 + k), s.work, pollLoop sp ops s1,
      fun rest => drive_pendingReads (s := s0) k hc hp rfl hcount hm, ?_⟩
    rw [← htm]
    exact stops_statusRead (s := s1) rfl hc hp hk
  | assisted =>
    have hW : waitReads c p sp k =
        [.assist (.autoPoll (c.opcode p.a4b .rdsr1) (eff .l1 p.qpi) sp.mask sp.target (c.budget sp.cls))] := by
      simp only [waitReads, waitWire, hi]
    rw [hW, settle_poll_assisted hi hc]
    subst hc hp
    exact stops_one ⟨_, _, rfl, ⟨rfl, nofun, nofun⟩, rfl⟩
      ⟨nofun, 0, s.n, s.work, .autoPoll sp :: ops, by rw [waited_nil]; rfl⟩

end

/-! ## Parts -/

/-- `Performs`, with the brackets of `Follows`. -/
inductive Proceeds (c : Cfg) (p : Sampled) : Work → List Op → List Part → List Byte → Work → List Op → Prop
  | done {w : Work} {ops : List Op} : Proceeds c p w ops [] [] w ops
  | items {w w' : Work} {ops ops' mid : List Op} {ws : List WireItem} {ps : List Part} {tx tx' : List Byte} :
      Follows c p ops ws tx → ws.all (WireItem.has quiet) = true → opensBracket ws = true →
      Proceeds c p w ops' ps tx' w' mid → Proceeds c p w (ops ++ ops') (.items ws :: ps) (tx ++ tx') w' mid
  | wait {w w' : Work} {ops mid : List Op} {sp : PollSpec} {ps : List Part} {tx : List Byte} :
      Proceeds c p w ops ps tx w' mid → Proceeds c p w (.poll sp :: ops) (.wait sp :: ps) tx w' mid
  | expands {w w1 w' : Work} {ops ops1 mid : List Op} {ps : List Part} {tx : List Byte} :
      (∀ s : State, s.cfg = c → s.smp = p → s.work = w → settle ops s = settle ops1 (s.atWork w1)) →
      Proceeds c p w1 ops1 ps tx w' mid → Proceeds c p w ops ps tx w' mid

namespace Proceeds
variable {c : Cfg} {p : Sampled} {w w' : Work} {ops mid : List Op} {ps : List Part} {tx : List Byte}

theorem single {ws : List WireItem} (h : Follows c p ops ws tx) (hq : ws.all (WireItem.has quiet) = true)
    (ho : opensBracket ws = true) (rest : List Op) : Proceeds c p w (ops ++ rest) [.items ws] tx w rest := by
  simpa using items h hq ho (done (w := w) (ops := rest))

theorem trans {w1 : Work} {end_ : List Op} {ps' : List Part} {tx' : List Byte} (h : Proceeds c p w ops ps tx w1 mid)
    (h' : Proceeds c p w1 mid ps' tx' w' end_) : Proceeds c p w ops (ps ++ ps') (tx ++ tx') w' end_ := by
  induction h with
  | done => exact h'
  | items hr hq ho _ ih => rw [List.append_assoc]; exact items hr hq ho (ih h')
  | wait _ ih => exact wait (ih h')
  | expands he _ ih => exact expands he (ih h')

/-- A run of a command is, however many of its calls are met, at the next of them. -/
theorem stops (h : Proceeds c p w ops ps tx w' mid) : ∀ (ks ms : List Nat) (s : State), s.cfg = c → s.smp = p →
    s.work = w → tx <+: s.txFifo → withinBudget c ps ks = true →
    Stops (CommandStop s) c (settle ops s) (partsCalls c p s.tm ps ks ms) := by
  induction h with
  | done => exact fun ks ms s _ _ _ _ _ => stops_nil
  | @items w w' ops ops' mid ws ps tx tx' hf hq ho _ ih =>
    intro ks ms s hc hp hw ht hb
    have ht1 : tx <+: s.txFifo := (List.prefix_append tx tx').trans ht
    have ht2 : tx' <+: s.txFifo.drop tx.length := by
      obtain ⟨f, hf⟩ := ht
      exact ⟨f, by rw [← hf, List.append_assoc, List.drop_left]⟩
    rw [partsCalls_items]
    refine stops_command_append (Follows.stops hf hq ho ms hc hp ht1 ops') fun as hm => ?_
    let s1 := s.waited (withRetries ms (wireCalls c s.tm ws)) as tx.length s.n
    have hs1 : s.did (withRetries ms (wireCalls c s.tm ws)) as tx.length = s1 :=
      did_eq_waited s (roles_withRetries rfl (roles_wireCalls rfl c s.tm ws hq) ms) as tx.length
    have htm : s1.tm = wireTm c s.tm ws := (modeAfter_withRetries ..).trans (hf.mode s.tm)
    refine ⟨tx.length, s.n, s.work, settle ops' s1, fun rest => ?_, ?_⟩
    · rw [hf.runs ms s as rest ops' hc hp ht1 hm, hs1, List.nil_append]
    · rw [← htm]
      exact ih ks _ s1 hc hp hw ht2 hb
  | @wait w w' ops mid sp ps tx _ ih =>
    intro ks ms s hc hp hw ht hb
    simp only [withinBudget, Bool.and_eq_true, decide_eq_true_eq] at hb
    obtain ⟨⟨hk, h32⟩, hb⟩ := hb
    rw [partsCalls_wait]
    refine stops_command_append (stops_wait hk h32 hc hp) fun as hm => ?_
    let s1 := s.waited (wireCalls c s.tm (waitReads c p sp (ks.headD 0))) as 0 (readsN c [.wait sp] [ks.headD 0] s.n)
    have htm : s1.tm = wireTm c s.tm (waitReads c p sp (ks.headD 0)) := modeAfter_waitReads ..
    refine ⟨0, readsN c [.wait sp] [ks.headD 0] s.n, s.work, settle ops s1,
      fun rest => drive_wait (fun _ => ⟨hk, h32⟩) hc hp hm, ?_⟩
    rw [← htm]
    exact ih ks.tail ms s1 hc hp hw ht hb
  | @expands w w1 w' ops ops1 mid ps tx he _ ih =>
    intro ks ms s hc hp hw ht hb
    rw [he s hc hp hw]
    exact (ih ks ms (s.atWork w1) hc hp rfl ht hb).mono
      fun pre post k as u _ _ hu => commandStop_work (n := s.n) (w := w1) hu

end Proceeds

end Sys2Proof.Machine
end

section
/-! SUPPORT. Every command proceeds through its parts (30_encoding.md R96). Most are one bracket; ENTER_QPI, SOFT_RESET and
ERASE are two, and WRITE unrolls its loop by its working registers. -/

namespace Sys2Proof.Machine

section
variable {c : Cfg} {p : Sampled} {w : Work} {d : CmdDesc} {addr addr2 : Word} {len : Nat} {tx used : List Byte}

theorem proceeds_bracket (h : DataFits p d len tx used .plain) (rest : List Op) :
    Proceeds c p w (bracketOps c p d addr addr2 len ++ rest) [.items (bracketWire c p d addr addr2 tx .plain)] used w
      rest :=
  .single (follows_bracket h) (silent_bracket c p d addr addr2 tx rfl) rfl rest

/-- A bracket under the write-enable sub-command (48_composite.md R290, R292, R295). -/
theorem proceeds_enabled (h : DataFits p d len tx used .plain) (rest : List Op) :
    Proceeds c p w (subOps c p writeEnableDesc 0 0 0 ++ (bracketOps c p d addr addr2 len ++ rest))
      [.items (bracketWire c p { opc := .wren } 0 0 [] .plain), .wait (welSpec c),
        .items (bracketWire c p d addr addr2 tx .plain)] used w rest := by
  have enable : DataFits p writeEnableDesc 0 [] [] .plain := rfl
  have ops : subOps c p writeEnableDesc 0 0 0 ++ (bracketOps c p d addr addr2 len ++ rest) =
      bracketOps c p writeEnableDesc 0 0 0 ++ (.poll (welWait c) :: (bracketOps c p d addr addr2 len ++ rest)) := by
    simp only [subOps, tailOps, writeEnableDesc, List.nil_append, List.append_assoc, List.cons_append]
  rw [ops]
  exact (proceeds_bracket enable _).trans (.wait (proceeds_bracket h rest))

end

/-! ## Commands without a wait inside -/

/-- A command without a wait inside follows `mainOf` up to its trailing wait, or its end. -/
def FollowsMain (i : Instr) (s : State) : Prop :=
  ∃ ops, opsOf i s.cfg (s.sample i) = ops ++ (waitOps i s ++ endOps i) ∧
    Follows s.cfg (s.sample i) ops (mainOf i s) (usedTx i s) ∧ (mainOf i s).all (WireItem.has quiet) = true ∧
    opensBracket (mainOf i s) = true

section
variable {i : Instr} {s : State}

theorem followsMain_bracket {d : CmdDesc} {addr addr2 : Word} {len : Nat} {tx : List Byte}
    (hops : opsOf i s.cfg (s.sample i) =
      bracketOps s.cfg (s.sample i) d addr addr2 len ++ (waitOps i s ++ endOps i))
    (hmain : mainOf i s = bracketWire s.cfg (s.sample i) d addr addr2 tx .plain)
    (hf : DataFits (s.sample i) d len tx (usedTx i s) .plain) : FollowsMain i s := by
  refine ⟨_, hops, ?_⟩
  rw [hmain]
  exact ⟨follows_bracket hf, silent_bracket _ _ _ _ _ _ rfl, rfl⟩

/-- A command that makes no call before its trailing wait or its end. -/
theorem followsMain_empty (hops : opsOf i s.cfg (s.sample i) = waitOps i s ++ endOps i) (hmain : mainOf i s = [])
    (htx : usedTx i s = []) : FollowsMain i s := by
  refine ⟨[], hops, ?_⟩
  rw [hmain, htx]
  exact ⟨follows_nil, rfl, rfl⟩

theorem followsMain_primitive {d : CmdDesc} (hd : primitiveDesc i s.cfg = some d)
    (hlen : i.format = .fALD → s.txFifo.length = s.len.toNat) : FollowsMain i s :=
  followsMain_bracket
    (by rw [opsOf_primitive _ hd, ← tailOps_primitive hd, subOps, List.append_assoc]; rfl) (mainOf_primitive hd)
    (dataFits_primitive hd hlen)

/-- The items of a command without a trailing wait that is one bracket. -/
theorem ops_bare {d : CmdDesc} {addr addr2 : Word} {len : Nat} (hcommit : d.commit = none) (hpost : d.post = .noPoll)
    (hops : opsOf i s.cfg (s.sample i) = subOps s.cfg (s.sample i) d addr addr2 len ++ [.finish .ok])
    (hend : waitOps i s ++ endOps i = [.finish .ok]) :
    opsOf i s.cfg (s.sample i) = bracketOps s.cfg (s.sample i) d addr addr2 len ++ (waitOps i s ++ endOps i) := by
  rw [hops, subOps_bare hcommit hpost, hend]

end

theorem followsMain_waitReady {s : State} (h : illegal .waitReady s = false) : FollowsMain .waitReady s := by
  have harg : s.arg.toNat ≤ 7 := by simpa [illegal] using h
  refine followsMain_empty ?_ rfl rfl
  simp only [opsOf, show (s.sample .waitReady).arg = s.arg from rfl, budgetClassOf_legal harg]
  rfl

theorem followsMain_read (s : State) : FollowsMain .read s :=
  followsMain_bracket (d := readDesc (readCommandFor s)) (addr := s.addr) (addr2 := 0) (len := s.len.toNat) (tx := [])
    (ops_bare rfl rfl (by simp only [opsOf, readVariantOf_sample]; rfl) rfl) rfl ⟨rfl, rfl⟩

theorem followsMain_getId (s : State) : FollowsMain .getId s :=
  followsMain_bracket (d := readJedecIdDesc s.cfg) (tx := []) (ops_bare rfl rfl rfl rfl) rfl ⟨rfl, rfl⟩

theorem followsMain_getStatus (s : State) : FollowsMain .getStatus s :=
  followsMain_bracket (d := readSr1Desc) (tx := []) (ops_bare rfl rfl rfl rfl) rfl ⟨rfl, rfl⟩

theorem followsMain_softReset (s : State) : FollowsMain .softReset s := by
  have first : DataFits (s.sample .softReset) resetEnableDesc 0 [] [] .plain := rfl
  have second : DataFits (s.sample .softReset) resetDesc 0 [] [] .plain := rfl
  refine ⟨_, ?_, (follows_bracket (d := resetEnableDesc) (addr := 0) (addr2 := 0) first).append
    (follows_bracket (d := resetDesc) (addr := 0) (addr2 := 0) second), ?_, rfl⟩
  · simp only [opsOf, subOps_bare (d := resetEnableDesc) rfl rfl, subOps_bare (d := resetDesc) rfl rfl]
    rfl
  · exact (List.all_append ..).trans (by
      rw [Bool.and_eq_true]
      exact ⟨silent_bracket _ _ _ _ _ _ rfl, silent_bracket _ _ _ _ _ _ rfl⟩)

/-- The read of status register 2 and its test: the test makes no call. -/
theorem follows_quadTest (c : Cfg) (p : Sampled) :
    Follows c p (bracketOps c p statusRead2Desc 0 0 0 ++ [.qeTest]) (status2Wire c p .quadTest) [] where
  toResendsTo := (runs_quadTest c p).resends (by simp [status2Wire, WireItem.once, pdOpc, pdRxi])
  halts ms s k hc hp ht := by
    have hread : Follows c p (bracketOps c p statusRead2Desc 0 0 0) (status2Wire c p .quadTest) [] :=
      follows_bracket (d := statusRead2Desc) (tx := []) ⟨rfl, rfl⟩
    rw [List.append_assoc]
    exact hread.halts ms s _ hc hp ht

theorem followsMain_enterQpi (s : State) : FollowsMain .enterQpi s := by
  have switch : DataFits (s.sample .enterQpi) enterQpiDesc 0 [] [] .plain := rfl
  refine ⟨_, ?_, (follows_quadTest s.cfg (s.sample .enterQpi)).append
    (follows_bracket (d := enterQpiDesc) (addr := 0) (addr2 := 0) switch), ?_, rfl⟩
  · simp only [opsOf, subOps, List.append_assoc]
    rfl
  · exact (List.all_append ..).trans (by
      rw [Bool.and_eq_true]
      exact ⟨rfl, silent_bracket _ _ _ _ _ _ rfl⟩)

theorem followsMain_all {i : Instr} {s : State} (h : operandsGood i s = true) (hw : i ≠ .write) (he : i ≠ .erase) :
    FollowsMain i s := by
  obtain ⟨hlegal, hlen, -⟩ := (operandsGood_iff i s).1 h
  cases hd : primitiveDesc i s.cfg with
  | some d => exact followsMain_primitive hd hlen
  | none =>
    cases i with
    | write => exact absurd rfl hw
    | erase => exact absurd rfl he
    | waitReady => exact followsMain_waitReady hlegal
    | dtrEnable | dtrDisable => exact followsMain_empty rfl rfl rfl
    | getId => exact followsMain_getId s
    | getStatus => exact followsMain_getStatus s
    | read => exact followsMain_read s
    | softReset => exact followsMain_softReset s
    | enterQpi => exact followsMain_enterQpi s
    | _ => cases hd

/-! ## ERASE and WRITE -/

theorem proceeds_erase (s : State) (w : Work) :
    Proceeds s.cfg (s.sample .erase) w (opsOf .erase s.cfg (s.sample .erase)) (mainParts .erase s) [] w
      (waitOps .erase s ++ endOps .erase) := by
  obtain ⟨ks, hd, haddr, hdata, hcommit⟩ := eraseDescOf_arg s
  let d := (eraseOf s).1
  have hf : DataFits (s.sample .erase) d 0 [] [] .plain := by
    unfold DataFits
    rw [hdata]
  have hwire : s.bracket .erase d [] = bracketWire s.cfg (s.sample .erase) d s.addr 0 [] .plain := by
    rcases haddr with h | h <;> simp only [State.bracket, bracketWire, d, h, addrPhaseBytes]
  have hops : opsOf .erase s.cfg (s.sample .erase) = subOps s.cfg (s.sample .erase) writeEnableDesc 0 0 0 ++
      (bracketOps s.cfg (s.sample .erase) d s.addr 0 0 ++ (waitOps .erase s ++ endOps .erase)) := by
    simp only [opsOf, show (s.sample .erase).arg = s.arg from rfl, hd, subOps, tailOps, hcommit, List.append_assoc]
    rfl
  rw [hops, mainParts, hwire]
  exact proceeds_enabled hf _

section
variable {c : Cfg} {p : Sampled} {w : Work}

theorem proceeds_chunk {fifo : List Byte} {off src z : Nat} (hz : src + z ≤ fifo.length) (rest : List Op) :
    Proceeds c p w (chunkOps c p (BitVec.ofNat 32 off) z ++ rest) (chunkParts c p fifo (off, src, z))
      ((fifo.drop src).take z) w rest := by
  have hlen : ((fifo.drop src).take z).length = z := by
    rw [List.length_take, List.length_drop]
    omega
  have hf : DataFits p (pageProgramDesc c) z ((fifo.drop src).take z) ((fifo.drop src).take z) .plain :=
    .inl ⟨rfl, rfl, hlen⟩
  have hops : chunkOps c p (BitVec.ofNat 32 off) z ++ rest = subOps c p writeEnableDesc 0 0 0 ++
      (bracketOps c p (pageProgramDesc c) (BitVec.ofNat 32 off) 0 z ++ (.poll (busySpec c .program) :: rest)) := by
    simp only [chunkOps, subOps, List.append_assoc]
    rfl
  have wait : Proceeds c p w (.poll (busySpec c .program) :: rest) [.wait (busySpec c .program)] [] w rest := .wait .done
  rw [hops, ← List.append_nil ((fifo.drop src).take z)]
  exact (proceeds_enabled hf _).trans wait

/-- WRITE's loop, its registers being numbers below 2^32 while a byte is left (48_composite.md R292, R293). -/
theorem proceeds_chunks (hpage : 0 < c.pageSize) (fifo : List Byte) (rest : List Op) (fuel : Nat) (off src rem : Nat)
    (hf : rem ≤ fuel) (hoff : off + rem ≤ 2 ^ 32) (hsrc : src + rem ≤ fifo.length) (h32 : rem < 2 ^ 32) :
    Proceeds c p (workOf off src rem) (.chunk :: rest)
      ((chunksFrom c.pageSize fuel off src rem).flatMap (chunkParts c p fifo)) ((fifo.drop src).take rem)
      (workOf (off + rem) (src + rem) 0) rest := by
  have finished (off src : Nat) :
      Proceeds c p (workOf off src 0) (.chunk :: rest) [] [] (workOf (off + 0) (src + 0) 0) rest :=
    .expands (fun s _ _ hw => settle_chunk_workOf_done hw rest) .done
  induction fuel generalizing off src rem with
  | zero =>
    obtain rfl : rem = 0 := by omega
    exact finished off src
  | succ fuel ih =>
    by_cases h0 : rem = 0
    · subst h0
      rw [chunksFrom_done]
      exact finished off src
    · let z := chunkSize c.pageSize off rem
      obtain ⟨hpos, -, -, hz⟩ : 1 ≤ z ∧ _ ∧ _ ∧ z ≤ rem := chunkSize_bounds hpage (Nat.pos_of_ne_zero h0)
      have htx : (fifo.drop src).take rem = (fifo.drop src).take z ++ (fifo.drop (src + z)).take (rem - z) := by
        rw [← List.drop_drop, ← List.take_add, Nat.add_sub_cancel' hz]
      have next := ih (off + z) (src + z) (rem - z) (by omega) (by omega) (by omega) (by omega)
      rw [show off + z + (rem - z) = off + rem by omega, show src + z + (rem - z) = src + rem by omega] at next
      have first : Proceeds c p (workOf off src rem)
          (chunkOps c p (BitVec.ofNat 32 off) z ++ (.advance z :: .chunk :: rest)) (chunkParts c p fifo (off, src, z))
          ((fifo.drop src).take z) (workOf off src rem) (.advance z :: .chunk :: rest) := proceeds_chunk (by omega) _
      rw [chunksFrom_next h0, List.flatMap_cons, htx]
      refine .expands (fun s hc hp hw => ?_)
        (first.trans (.expands (fun s _ _ hw => settle_advance_workOf hw hz h32 _) next))
      subst hc hp
      exact settle_chunk_workOf hw h0 (by omega) h32 rest

end

theorem proceeds_write {s : State} (h : operandsGood .write s = true) (w : Work) :
    Proceeds s.cfg (s.sample .write) w (opsOf .write s.cfg (s.sample .write)) (partsOf .write s) s.txFifo
      (workAfter .write s) (endOps .write) := by
  obtain ⟨-, hlen, hpage⟩ := (operandsGood_iff .write s).1 h
  obtain ⟨hpage, hsum⟩ := hpage rfl
  have hlen : s.txFifo.length = s.len.toNat := hlen rfl
  have hword (v : Word) : BitVec.ofNat 32 v.toNat = v := BitVec.eq_of_toNat_eq (by simp)
  have hstart : workOf s.addr.toNat 0 s.len.toNat = { off := s.addr, rem := s.len, srci := 0 } := by
    rw [workOf, hword, hword]
    rfl
  have hend : workOf (s.addr.toNat + s.len.toNat) (0 + s.len.toNat) 0 = workAfter .write s := by
    rw [workOf, BitVec.ofNat_add, Nat.zero_add, hword, hword]
    rfl
  have htx : (s.txFifo.drop 0).take s.len.toNat = s.txFifo := by rw [List.drop_zero, ← hlen, List.take_length]
  have loop := proceeds_chunks (p := s.sample .write) hpage s.txFifo [.finish .ok] s.len.toNat s.addr.toNat 0 s.len.toNat
    (le_refl _) hsum (by omega) s.len.isLt
  rw [htx, hstart, hend] at loop
  exact .expands (fun t _ hp _ => by rw [opsOf, settle_loadWrite, hp]; rfl) loop

/-- Every command proceeds through its parts. -/
theorem proceeds_parts {i : Instr} {s : State} (h : operandsGood i s = true) :
    Proceeds s.cfg (s.sample i) s.work (opsOf i s.cfg (s.sample i)) (partsOf i s) (usedTx i s) (workAfter i s)
      (endOps i) := by
  by_cases hw : i = .write
  · subst hw
    exact proceeds_write h s.work
  · have main : Proceeds s.cfg (s.sample i) s.work (opsOf i s.cfg (s.sample i)) (mainParts i s) (usedTx i s) s.work
        (waitOps i s ++ endOps i) := by
      by_cases he : i = .erase
      · subst he
        exact proceeds_erase s s.work
      · obtain ⟨ops, hops, hf, hq, ho⟩ := followsMain_all h hw he
        rw [hops, mainParts_of_ne he]
        exact .single hf hq ho _
    rw [partsOf_eq hw, workAfter_of_ne hw, ← List.append_nil (usedTx i s)]
    refine main.trans ?_
    unfold waitOps
    cases waitOf i s with
    | none => exact .done
    | some sp => exact .wait .done

end Sys2Proof.Machine
end

section
/-! THEOREM. A refused call ends its command (O40, 60_exceptions.md R311, R312, R316 to R319). Where the call is made, `Stops`
says; what the refusal does there, `drive_refused`. -/

namespace Sys2Proof.Machine

/-- A command issued with good operands is a run of its items. -/
theorem exec_run {i : Instr} {s : State} (hr : s.run = false) (hgood : operandsGood i s = true) :
    exec i s = .next (drive s.xp (settle (opsOf i s.cfg (s.sample i)) (sampleAndClear i s))) := by
  have hk := (checks_legal i s).2 ((operandsGood_iff i s).1 hgood).1
  rw [exec_eq]
  rcases runCommand_cases i (checksOf i s.cfg) (opsOf i) s with ⟨h1, -⟩ | ⟨-, h2, -⟩ | ⟨-, -, h3⟩
  · simp [hr] at h1
  · have : checksHold (checksOf i s.cfg) s.cfg (s.sample i) = false := h2
    simp [hk] at this
  · exact h3

/-- A command stopped at the call `k`, whose refusal then ends it. -/
theorem failedAt_of_stop {i : Instr} {s u : State} {pre : List WireCall} {as rest : List Answer} {k : WireCall}
    {bad close : Answer} (h : CommandStop (sampleAndClear i s) pre as k u) (hk : Poised u k)
    (hr : refuses k bad = true) :
    s.failedAt (drive (bad :: close :: rest) u) i pre as k bad close ∧
      (drive (bad :: close :: rest) u).xp = if leavesOpen k then rest else close :: rest := by
  obtain ⟨op, ops, ht, hat, hf⟩ := hk.at_call
  obtain ⟨-, m, n, w, todo, rfl⟩ := h
  have hsum : checksum s.cfg.cksumBits (capturedBytes pre as) =
      sumInto s.cfg.cksumBits 0 (capturedBytes pre as) := (sumInto_zero ..).symm
  rw [drive_refused ht hat hf hr]
  unfold State.failedAt
  rw [hsum]
  split <;> simp [State.logged, State.atWork, State.waited, State.did, closedCalls, replyTo]

theorem failsAtFirstRefusal (i : Instr) : FailsAtFirstRefusal i := by
  intro s ks ms pre post k as rest bad close hr hgood hb hsplit hm href hx
  obtain ⟨u, hrun, hk, hstop⟩ := (proceeds_parts hgood).stops ks ms (sampleAndClear i s) rfl rfl rfl (usedTx_prefix i s)
    hb pre post k as hsplit hm
  obtain ⟨hfailed, hxp⟩ := failedAt_of_stop (close := close) (rest := rest) hstop hk href
  exact ⟨_, by rw [exec_run hr hgood, hx, hrun], hfailed, hxp⟩

/-- Settles O40: a run stops at each call of its command, and in every state a refusal leaves the abort path or the end. -/
theorem failuresEndTheCommandAtOnce : Obligations.FailuresEndTheCommandAtOnce := by
  refine ⟨failsAtFirstRefusal, ?_, fun s e pos rest a h => answerCall_abort h a⟩
  intro s op rest k a ht _ hop hk w s1 href
  have hat : AtCall s op w := ⟨(pendingCall_cons ht).symm.trans hk, hop, fun _ _ _ => rfl⟩
  have hans := answerCall_refused ht hat href
  refine ⟨hans, fun ho => ?_⟩
  rw [show answerCall k a s = _ from hans, if_pos ho]
  exact pos_abort rfl

end Sys2Proof.Machine
end
